-- ==== Sys2Proof/Word.lean ====
section
/-! DEFINITION. The word types of the block (00_scope.md rules R17, R18): an unsigned N-bit register is a bit vector of
its width; a value of the spec's pseudocode is an unbounded integer. -/

namespace Sys2Proof

/-- A command word, a response word or a 32-bit register (u32). -/
abbrev Word := BitVec 32

/-- A 64-bit register (u64): SAMPLE_COUNTER and the timestamps. -/
abbrev Word64 := BitVec 64

/-- A 14-bit control index or command VALUE (u14). -/
abbrev Index14 := BitVec 14

end Sys2Proof
end

