-- ==== Sys2Proof/Syntax.lean ====
section
/-! DEFINITION. The commands of the block: one constructor per row of spec/opcode_table.json (30_encoding.md rule R123),
with the operands of its format (rules R111 to R120) at their encoded widths; and the causes of a rejection. -/

namespace Sys2Proof

/-- The four wavetables (10_state.md rule R34, codes 0..3; 41_wavetable_rom.md rule R150). -/
inductive Wave where
  | sine
  | square
  | triangle
  | ramp
  deriving DecidableEq, Repr

/-- The rejection causes (60_exceptions.md rule R372, codes 0..7; codes 8..15 are never written). -/
inductive RejectCause where
  | none
  | reservedOpcode
  | reservedBits
  | reservedSelector
  | noteRange
  | valueRange
  | zeroCount
  | indexRange
  deriving DecidableEq, Repr

/-- A command. Every field is unsigned (rule R120); whether its value is legal (rule R124) is checked when the command
executes, not here. -/
inductive Instr where
  /-- NOP (46_parameters.md rule R300). -/
  | nop
  /-- NOTE_ON (45_voice_allocator.md rule R276). -/
  | noteOn (note : BitVec 8) (vel : BitVec 7)
  /-- NOTE_OFF (45_voice_allocator.md rule R277). -/
  | noteOff (note : BitVec 8)
  /-- CTRL_ATTACK (46_parameters.md rule R301). -/
  | ctrlAttack (value : Index14)
  /-- CTRL_DECAY (rule R302). -/
  | ctrlDecay (value : Index14)
  /-- CTRL_SUSTAIN (rule R305). -/
  | ctrlSustain (value : Index14)
  /-- CTRL_RELEASE (rule R306). -/
  | ctrlRelease (value : Index14)
  /-- CTRL_GAIN (rule R308). -/
  | ctrlGain (value : Index14)
  /-- LAYER_SHAPE (rule R303). -/
  | layerShape (layer : Fin 4) (value : Index14)
  /-- LAYER_ATTACK (rule R309). -/
  | layerAttack (layer : Fin 4) (value : Index14)
  /-- LAYER_DECAY (rule R310). -/
  | layerDecay (layer : Fin 4) (value : Index14)
  /-- LAYER_SUSTAIN (rule R311). -/
  | layerSustain (layer : Fin 4) (value : Index14)
  /-- LAYER_RELEASE (rule R312). -/
  | layerRelease (layer : Fin 4) (value : Index14)
  /-- LAYER_MIX (rule R313). -/
  | layerMix (layer : Fin 4) (value : Index14)
  /-- RENDER (47_mixer.md rule R335). -/
  | render (count : BitVec 16)
  /-- POLL (47_mixer.md rule R336). -/
  | poll
  /-- READ_REG (46_parameters.md rule R307). -/
  | readReg (addr : BitVec 12)
  /-- READ_WT (41_wavetable_rom.md rule R163). -/
  | readWt (shape : Wave) (index : BitVec 12)
  /-- READ_PITCH (42_pitch_table.md rule R184). -/
  | readPitch (note : BitVec 8)
  /-- READ_ENVLUT (44_envelope.md rule R224). -/
  | readEnvlut (index : Index14)
  deriving DecidableEq, Repr

end Sys2Proof
end

