-- ==== Sys2Proof/Decode.lean ====
section
/-! DEFINITION. The decoder, total on 32-bit words (30_encoding.md rules R110 to R126), rejecting by the causes of
60_exceptions.md rules R372 and R373, and after it the encoder, written from the same formats. -/

namespace Sys2Proof

/-- The unsigned field of `len` bits of `w` whose lowest bit is bit `lo` (00_scope.md rule R18: `w[lo+len-1 : lo]`). -/
def field (w : Word) (lo len : Nat) : Nat := w.toNat / 2 ^ lo % 2 ^ len

/-- What the decoder reads from a word: a command, or the cause for which the word is rejected. -/
inductive Decoded where
  | command (i : Instr)
  | reject (cause : RejectCause)
  deriving DecidableEq, Repr

/-- The command, unless a bit its format defines as zero is 1 (cause RESERVED_BITS). -/
def unlessReserved (zeroField : Nat) (d : Decoded) : Decoded :=
  if zeroField = 0 then d else .reject .reservedBits

/-- The shape code of format W (rule R118; codes of 10_state.md rule R34). -/
def waveOfCode : Nat → Wave
  | 0 => .sine
  | 1 => .square
  | 2 => .triangle
  | _ => .ramp

/-- The code of a wave (10_state.md rule R34). -/
def waveCode : Wave → Nat
  | .sine => 0
  | .square => 1
  | .triangle => 2
  | .ramp => 3

/-- The TGT codes of format C (rule R121); 5..7 are reserved. -/
def decodeCtrl (tgt : Nat) (value : Index14) : Decoded :=
  match tgt with
  | 0 => .command (.ctrlAttack value)
  | 1 => .command (.ctrlDecay value)
  | 2 => .command (.ctrlSustain value)
  | 3 => .command (.ctrlRelease value)
  | 4 => .command (.ctrlGain value)
  | _ => .reject .reservedSelector

/-- The PRM codes of format L (rule R122); 6 and 7 are reserved. -/
def decodeLayer (prm : Nat) (layer : Fin 4) (value : Index14) : Decoded :=
  match prm with
  | 0 => .command (.layerShape layer value)
  | 1 => .command (.layerAttack layer value)
  | 2 => .command (.layerDecay layer value)
  | 3 => .command (.layerSustain layer value)
  | 4 => .command (.layerRelease layer value)
  | 5 => .command (.layerMix layer value)
  | _ => .reject .reservedSelector

/-- Rule R123: the opcode field selects the format, then the reserved-zero bits, then the selector (the precedence of
60_exceptions.md rule R373; the range causes come after, when the command executes). -/
def decode (w : Word) : Decoded :=
  match field w 28 4 with
  | 0 => unlessReserved (field w 0 28) (.command .nop)
  | 1 => unlessReserved (field w 15 13) (.command (.noteOn (.ofNat 8 (field w 0 8)) (.ofNat 7 (field w 8 7))))
  | 2 => unlessReserved (field w 8 20) (.command (.noteOff (.ofNat 8 (field w 0 8))))
  | 3 =>
    unlessReserved (field w 27 1 + field w 14 10) (decodeCtrl (field w 24 3) (.ofNat 14 (field w 0 14)))
  | 4 =>
    unlessReserved (field w 26 2 + field w 23 1 + field w 14 6)
      (decodeLayer (field w 20 3) (Fin.ofNat 4 (field w 24 2)) (.ofNat 14 (field w 0 14)))
  | 5 => unlessReserved (field w 16 12) (.command (.render (.ofNat 16 (field w 0 16))))
  | 6 => unlessReserved (field w 0 28) (.command .poll)
  | 7 => unlessReserved (field w 12 16) (.command (.readReg (.ofNat 12 (field w 0 12))))
  | 8 =>
    unlessReserved (field w 14 14) (.command (.readWt (waveOfCode (field w 12 2)) (.ofNat 12 (field w 0 12))))
  | 9 => unlessReserved (field w 8 20) (.command (.readPitch (.ofNat 8 (field w 0 8))))
  | 10 => unlessReserved (field w 14 14) (.command (.readEnvlut (.ofNat 14 (field w 0 14))))
  | _ => .reject .reservedOpcode

/-- The word of format C (rule R114) with selector TGT. -/
def encodeCtrl (tgt : Nat) (value : Index14) : Word := .ofNat 32 (0x30000000 + tgt * 2 ^ 24 + value.toNat)

/-- The word of format L (rule R115) with selector PRM. -/
def encodeLayer (prm : Nat) (layer : Fin 4) (value : Index14) : Word :=
  .ofNat 32 (0x40000000 + layer.val * 2 ^ 24 + prm * 2 ^ 20 + value.toNat)

/-- The word of a command (rules R111 to R123; the assembly words of rule R127). -/
def encode : Instr → Word
  | .nop => .ofNat 32 0x00000000
  | .noteOn note vel => .ofNat 32 (0x10000000 + vel.toNat * 2 ^ 8 + note.toNat)
  | .noteOff note => .ofNat 32 (0x20000000 + note.toNat)
  | .ctrlAttack value => encodeCtrl 0 value
  | .ctrlDecay value => encodeCtrl 1 value
  | .ctrlSustain value => encodeCtrl 2 value
  | .ctrlRelease value => encodeCtrl 3 value
  | .ctrlGain value => encodeCtrl 4 value
  | .layerShape layer value => encodeLayer 0 layer value
  | .layerAttack layer value => encodeLayer 1 layer value
  | .layerDecay layer value => encodeLayer 2 layer value
  | .layerSustain layer value => encodeLayer 3 layer value
  | .layerRelease layer value => encodeLayer 4 layer value
  | .layerMix layer value => encodeLayer 5 layer value
  | .render count => .ofNat 32 (0x50000000 + count.toNat)
  | .poll => .ofNat 32 0x60000000
  | .readReg addr => .ofNat 32 (0x70000000 + addr.toNat)
  | .readWt shape index => .ofNat 32 (0x80000000 + waveCode shape * 2 ^ 12 + index.toNat)
  | .readPitch note => .ofNat 32 (0x90000000 + note.toNat)
  | .readEnvlut index => .ofNat 32 (0xA0000000 + index.toNat)

/-- The "match" column of rule R123. -/
def Instr.opcodeMatch : Instr → Word
  | .nop => 0x00000000
  | .noteOn _ _ => 0x10000000
  | .noteOff _ => 0x20000000
  | .ctrlAttack _ => 0x30000000
  | .ctrlDecay _ => 0x31000000
  | .ctrlSustain _ => 0x32000000
  | .ctrlRelease _ => 0x33000000
  | .ctrlGain _ => 0x34000000
  | .layerShape _ _ => 0x40000000
  | .layerAttack _ _ => 0x40100000
  | .layerDecay _ _ => 0x40200000
  | .layerSustain _ _ => 0x40300000
  | .layerRelease _ _ => 0x40400000
  | .layerMix _ _ => 0x40500000
  | .render _ => 0x50000000
  | .poll => 0x60000000
  | .readReg _ => 0x70000000
  | .readWt _ _ => 0x80000000
  | .readPitch _ => 0x90000000
  | .readEnvlut _ => 0xA0000000

/-- The "mask" column of rule R123. -/
def Instr.opcodeMask : Instr → Word
  | .nop => 0xFFFFFFFF
  | .noteOn _ _ => 0xFFFF8000
  | .noteOff _ => 0xFFFFFF00
  | .ctrlAttack _ => 0xFFFFC000
  | .ctrlDecay _ => 0xFFFFC000
  | .ctrlSustain _ => 0xFFFFC000
  | .ctrlRelease _ => 0xFFFFC000
  | .ctrlGain _ => 0xFFFFC000
  | .layerShape _ _ => 0xFCFFC000
  | .layerAttack _ _ => 0xFCFFC000
  | .layerDecay _ _ => 0xFCFFC000
  | .layerSustain _ _ => 0xFCFFC000
  | .layerRelease _ _ => 0xFCFFC000
  | .layerMix _ _ => 0xFCFFC000
  | .render _ => 0xFFFF0000
  | .poll => 0xFFFFFFFF
  | .readReg _ => 0xFFFFF000
  | .readWt _ _ => 0xFFFFC000
  | .readPitch _ => 0xFFFFFF00
  | .readEnvlut _ => 0xFFFFC000

/-- The command word that an opcode-table row's bits stand for: bit 0 is the least significant bit (rule R18), and every
command is one 32-bit word (rule R110). No byte order is involved: the port carries whole words (20_memory.md rule R84;
log 10). -/
def tableWord (nbits w : Nat) : Word := .ofNat 32 (w % 2 ^ nbits)

/-- What the decoder reads from an opcode-table word (`none` where the word is rejected at decode). -/
def decodeTableWord (nbits w : Nat) : Option Instr :=
  match decode (tableWord nbits w) with
  | .command i => some i
  | .reject _ => none

end Sys2Proof
end

