-- ==== Sys2Proof/Config.lean ====
section
/-! DEFINITION. The implementation parameters of the block (00_scope.md rules R9 to R15): fixed for the life of a block
(10_state.md rule R30). A value of `Config` is one block's build; State carries it unchanged (log 1), so that a statement
about every state is a statement about every configuration. -/

namespace Sys2Proof

/-- ENV_INDEX_BITS (rule R12): the width of the attack, decay and release indices. -/
inductive EnvIndexBits where
  | bits7
  | bits14
  deriving DecidableEq, Repr

/-- ENV_TICK_MODE (rule R14): when the envelopes advance. -/
inductive EnvTickMode where
  | perSample
  | perBlock
  deriving DecidableEq, Repr

/-- The parameters a block is built with. -/
structure Config where
  /-- SAMPLE_RATE (rule R10), OPEN. -/
  sampleRate : Nat
  /-- BLOCK_LEN (rule R11), OPEN. -/
  blockLen : Nat
  /-- ENV_INDEX_BITS (rule R12). -/
  envIndexBits : EnvIndexBits
  /-- ENV_TICK_MODE (rule R14). -/
  envTickMode : EnvTickMode
  /-- PHASE_RESET_ON_NOTE_ON (rule R15). -/
  phaseResetOnNoteOn : Bool
  /-- ENV_RATE_MIN (rule R15), 0 or 1. -/
  envRateMin : Fin 2
  deriving DecidableEq, Repr

/-- ENV_INDEX_BITS as a number. -/
def EnvIndexBits.width : EnvIndexBits → Nat
  | .bits7 => 7
  | .bits14 => 14

/-- ENV_MAX_INDEX = 2^ENV_INDEX_BITS - 1 (rule R12). -/
def Config.envMaxIndex (c : Config) : Nat := 2 ^ c.envIndexBits.width - 1

/-- ENV_MAX = 2^32 - 1, the full-scale envelope level (44_envelope.md rule R226). -/
def envMax : Nat := 2 ^ 32 - 1

/-- The configurations the spec admits: `SAMPLE_RATE >= 12544` (R10), `BLOCK_LEN` in 1..65535 (R11), and the sample
rates below 429496729, for which every ENVLUT entry fits its u32 (R221; DEDUCED, log 3). -/
def Config.wf (c : Config) : Bool :=
  decide (12544 ≤ c.sampleRate ∧ c.sampleRate < 429496729 ∧ 1 ≤ c.blockLen ∧ c.blockLen ≤ 65535)

/-- The parameters of the test vectors (95_test_vectors.md): the defaults of the spec, with SAMPLE_RATE = 44100 and
BLOCK_LEN = 4 for the two OPEN ones (DESIGN CHOICE, log 2). -/
def Config.vectors : Config where
  sampleRate := 44100
  blockLen := 4
  envIndexBits := .bits7
  envTickMode := .perSample
  phaseResetOnNoteOn := false
  envRateMin := 0

end Sys2Proof
end

