-- ==== Sys2Proof/Machine/Banks.lean ====
section
/-! DEFINITION. Fixed arrays of four layers and eight voices (10_state.md rules R33, R39: their numbers never change), as
plain data with every slot named. -/

namespace Sys2Proof.Machine

/-- Four like things, indexed 0..3 by layer. -/
structure Four (α : Type) where
  l0 : α
  l1 : α
  l2 : α
  l3 : α
  deriving DecidableEq, Repr

/-- Eight like things, indexed 0..7 by voice. -/
structure Eight (α : Type) where
  v0 : α
  v1 : α
  v2 : α
  v3 : α
  v4 : α
  v5 : α
  v6 : α
  v7 : α
  deriving DecidableEq, Repr

/-- Entry `i`. -/
def Four.get {α : Type} (x : Four α) : Fin 4 → α
  | 0 => x.l0
  | 1 => x.l1
  | 2 => x.l2
  | 3 => x.l3

/-- The array whose entry `i` is `f i`. -/
def Four.ofFn {α : Type} (f : Fin 4 → α) : Four α := ⟨f 0, f 1, f 2, f 3⟩

/-- Entry `i` replaced by `f` of itself. -/
def Four.modify {α : Type} (x : Four α) (i : Fin 4) (f : α → α) : Four α :=
  Four.ofFn fun j => if j = i then f (x.get j) else x.get j

/-- The sum of an integer over the entries. -/
def Four.sum (f : Fin 4 → Int) : Int := f 0 + f 1 + f 2 + f 3

/-- Entry `i`. -/
def Eight.get {α : Type} (x : Eight α) : Fin 8 → α
  | 0 => x.v0
  | 1 => x.v1
  | 2 => x.v2
  | 3 => x.v3
  | 4 => x.v4
  | 5 => x.v5
  | 6 => x.v6
  | 7 => x.v7

/-- The array whose entry `i` is `f i`. -/
def Eight.ofFn {α : Type} (f : Fin 8 → α) : Eight α := ⟨f 0, f 1, f 2, f 3, f 4, f 5, f 6, f 7⟩

/-- Entry `i` replaced by `f` of itself. -/
def Eight.modify {α : Type} (x : Eight α) (i : Fin 8) (f : α → α) : Eight α :=
  Eight.ofFn fun j => if j = i then f (x.get j) else x.get j

/-- The sum of an integer over the entries. -/
def Eight.sum (f : Fin 8 → Int) : Int := f 0 + f 1 + f 2 + f 3 + f 4 + f 5 + f 6 + f 7

/-- The layers in the order of the spec's loops `for l in 0..3` (00_scope.md rule R24). -/
def layerOrder : List (Fin 4) := [0, 1, 2, 3]

/-- The voices in scan order, ascending (00_scope.md rule R24; 45_voice_allocator.md rule R272). -/
def voiceOrder : List (Fin 8) := [0, 1, 2, 3, 4, 5, 6, 7]

end Sys2Proof.Machine
end

