-- ==== Sys2Proof/Machine/State.lean ====
section
/-! DEFINITION. The state of the block (10_state.md), as plain data: the patch, the voice pool, the global registers, the
lookahead buffer, the output streams, and the model's own fields for what the host presents at the inputs. Registers whose
codes 5..7 or 8..15 are "never held" are inductive types (rules R34, R41; 60_exceptions.md rule R372; log 11). -/

namespace Sys2Proof.Machine

/-- The five states of an envelope (rule R41). -/
inductive EnvState where
  | idle
  | attack
  | decay
  | sustain
  | release
  deriving DecidableEq, Repr

/-- One layer descriptor `P.L[l]` of the patch (rule R33). -/
structure PatchLayer where
  /-- The oscillator table, `none` for INACTIVE (rule R34). -/
  shape : Option Wave
  /-- Attack index (rule R35). -/
  attack : Index14
  /-- Decay index (rule R35). -/
  decay : Index14
  /-- Sustain level (rule R36). -/
  sustain : Word
  /-- Release index (rule R35). -/
  release : Index14
  /-- Mix amount (rule R37). -/
  mix : BitVec 7
  deriving DecidableEq, Repr

/-- One layer envelope `V[v].L[l]` (rule R40). -/
structure LayerEnv where
  state : EnvState
  level : Word
  rate : Word
  deriving DecidableEq, Repr

/-- One voice `V[v]` (rule R39). -/
structure Voice where
  /-- The assigned MIDI note. -/
  note : BitVec 7
  /-- The phase accumulator (43_oscillator.md rule R200). -/
  phase : Word
  /-- The phase increment. -/
  tune : Word
  /-- The trigger time (rule R62). -/
  ts : Word64
  /-- The four layer envelopes. -/
  env : Four LayerEnv
  deriving DecidableEq, Repr

/-- A stereo pair of s16 samples (47_mixer.md rule R333), each as its 16-bit two's-complement pattern. -/
structure StereoPair where
  left : BitVec 16
  right : BitVec 16
  deriving DecidableEq, Repr

/-- What the host presents at the block's inputs, one event at a time, in order (log 6). -/
inductive PortEvent where
  /-- A command word on the event port, with the level of `sink_ready` during its step (00_scope.md rule R24). -/
  | command (word : Word) (sinkReady : Bool)
  /-- An assertion of the reset input (70_reset_and_hazards.md rules R400, R401). -/
  | reset
  deriving DecidableEq, Repr

/-- The block's state. -/
structure State where
  /-- The implementation parameters, fixed for the life of the block (rule R30; log 1). -/
  cfg : Config
  /-- The patch `P.L[0..3]` (rule R33). -/
  patch : Four PatchLayer
  /-- MASTER_GAIN (rule R38). -/
  masterGain : BitVec 7
  /-- The voice pool `V[0..7]` (rule R39). -/
  voices : Eight Voice
  /-- PEAK (rule R45). -/
  peak : Word
  /-- DROPOUT_COUNT (rule R45). -/
  dropoutCount : Word
  /-- REJECT_COUNT (rule R45). -/
  rejectCount : Word
  /-- REJECT_CAUSE (rule R45). -/
  rejectCause : RejectCause
  /-- REJECT_WORD (rule R45). -/
  rejectWord : Word
  /-- LOOKAHEAD_FULL (rule R45). -/
  lookaheadFull : Bool
  /-- LOOKAHEAD[0..BLOCK_LEN-1] (rule R46), the one writable storage space (20_memory.md rule R80). -/
  lookahead : List StereoPair
  /-- SAMPLE_COUNTER (rule R61). -/
  sampleCounter : Word64
  /-- RUN_PEAK (rule R49), hidden; between blocks it keeps its last value (log 5). -/
  runPeak : Word
  /-- CP, the command position (rule R31). -/
  cp : Nat
  /-- SINK_OUT, the blocks delivered to the sink, oldest first (rule R48). -/
  sinkOut : List (List StereoPair)
  /-- RESP_OUT, the response words, oldest first (rule R48). -/
  respOut : List Word
  /-- The model's field: what the host presents and the block has not consumed, oldest first (log 6). -/
  port : List PortEvent
  /-- The model's field: the level of the input `sink_ready` as last sampled (log 7). -/
  sinkReady : Bool
  deriving DecidableEq, Repr

/-- Reasons for the machine to stop with a fault: NONE. "The block has no trap, fault, exception vector or handler"
(60_exceptions.md rule R370), so no step raises one. -/
inductive Fault where
  deriving DecidableEq, Repr

/-- Reasons to have no meaning for an instruction. -/
inductive Refusal where
  /-- Raised by an arm of `exec` whose command has no meaning yet; no arm does (safe: the model stops where the block
  would go on). -/
  | notModelled (mnemonic : String)
  deriving DecidableEq, Repr

/-- The outcome of a step of this machine. -/
abbrev Result := Host.Outcome State Fault Refusal

/-- A layer envelope after reset (rule R56). -/
def LayerEnv.reset : LayerEnv := { state := .idle, level := 0, rate := 0 }

/-- A voice after reset (rule R56). -/
def Voice.reset : Voice :=
  { note := 0, phase := 0, tune := 0, ts := 0, env := Four.ofFn fun _ => LayerEnv.reset }

/-- The layer descriptors after reset (rule R57): the default patch, sine on layer 0, the other layers inactive. -/
def PatchLayer.reset (l : Fin 4) : PatchLayer :=
  { shape := if l = 0 then some .sine else none
    attack := 1, decay := 5, sustain := 0x7FFFFFFF, release := 127, mix := 127 }

/-- The state of a block built with the parameters `c` right after reset (rules R56 to R60). LOOKAHEAD, which the spec
leaves unspecified and unobservable, holds zero pairs (log 4); nothing is presented at the port (log 6). -/
def State.resetWith (c : Config) : State :=
  { cfg := c
    patch := Four.ofFn PatchLayer.reset
    masterGain := 127
    voices := Eight.ofFn fun _ => Voice.reset
    peak := 0
    dropoutCount := 0
    rejectCount := 0
    rejectCause := .none
    rejectWord := 0
    lookaheadFull := false
    lookahead := List.replicate c.blockLen { left := 0, right := 0 }
    sampleCounter := 0
    runPeak := 0
    cp := 0
    sinkOut := []
    respOut := []
    port := []
    sinkReady := false }

/-- The machine right after reset, with the parameters of the test vectors (log 2). -/
def State.reset : State := State.resetWith Config.vectors

end Sys2Proof.Machine
end

