-- ==== Sys2Proof/Machine/Flags.lean ====
section
/-! DEFINITION. The status fields of the block (10_state.md rule R55: it has no condition codes; its status bits are
LOOKAHEAD_FULL and the envelope states), their numeric codes, and the predicates over them. -/

namespace Sys2Proof.Machine

/-- The codes of the envelope states (10_state.md rule R41). -/
def EnvState.code : EnvState → Nat
  | .idle => 0
  | .attack => 1
  | .decay => 2
  | .sustain => 3
  | .release => 4

/-- The codes of the shape selector (10_state.md rule R34). -/
def shapeCode : Option Wave → Nat
  | some w => waveCode w
  | none => 4

/-- The codes of the rejection causes (60_exceptions.md rule R372). -/
def causeCode : RejectCause → Nat
  | .none => 0
  | .reservedOpcode => 1
  | .reservedBits => 2
  | .reservedSelector => 3
  | .noteRange => 4
  | .valueRange => 5
  | .zeroCount => 6
  | .indexRange => 7

/-- LOOKAHEAD_FULL as bit [0] of its register (10_state.md rule R50). -/
def fullBit (s : State) : Nat := if s.lookaheadFull then 1 else 0

/-- A layer is active when its shape is not INACTIVE (10_state.md rule R43). -/
def PatchLayer.active (p : PatchLayer) : Bool := p.shape.isSome

/-- `P.L[l].shape != INACTIVE`. -/
def State.active (s : State) (l : Fin 4) : Bool := (s.patch.get l).active

/-- The envelope `V[v].L[l]`. -/
def State.env (s : State) (v : Fin 8) (l : Fin 4) : LayerEnv := (s.voices.get v).env.get l

/-- ATTACK, DECAY or SUSTAIN: neither IDLE nor RELEASE (45_voice_allocator.md rule R271). -/
def EnvState.soundingState : EnvState → Bool
  | .attack => true
  | .decay => true
  | .sustain => true
  | .idle => false
  | .release => false

/-- `free(v)` (45_voice_allocator.md rule R270): every active layer is IDLE. -/
def State.free (s : State) (v : Fin 8) : Bool :=
  layerOrder.all fun l => !s.active l || decide ((s.env v l).state = .idle)

/-- `sounding(v)` (45_voice_allocator.md rule R271): some active layer is in ATTACK, DECAY or SUSTAIN. -/
def State.sounding (s : State) (v : Fin 8) : Bool :=
  layerOrder.any fun l => s.active l && (s.env v l).state.soundingState

end Sys2Proof.Machine
end

