-- ==== Sys2Proof/Machine/Arith.lean ====
section
/-! DEFINITION. The arithmetic primitives of 00_scope.md rule R19, exact on integers, and a search used by the ROM
contents. -/

namespace Sys2Proof.Machine

/-- `a >>a k`: the arithmetic shift, `floor(a / 2^k)` for every sign of `a`. -/
def asr (a : Int) (k : Nat) : Int := a / 2 ^ k

/-- `tdiv(a, b)`: the quotient truncated toward zero. -/
def tdiv (a b : Int) : Int := Int.tdiv a b

/-- `sat16(x) = min(32767, max(-32768, x))`. -/
def sat16 (x : Int) : Int := min 32767 (max (-32768) x)

/-- The s16 pattern of an integer that lies in the s16 range. -/
def s16 (x : Int) : BitVec 16 := .ofInt 16 x

/-- The largest `r` of `acc .. acc + 2^bits - 1` with `p r`, for a `p` that holds of `acc` and of no number above one it
fails of: one binary digit at a time, the highest first. -/
def largestFrom (p : Nat → Bool) : Nat → Nat → Nat
  | 0, acc => acc
  | bits + 1, acc => if p (acc + 2 ^ bits) then largestFrom p bits (acc + 2 ^ bits) else largestFrom p bits acc

end Sys2Proof.Machine
end

