-- ==== Sys2Proof/Machine/WaveRamp.lean ====
section
/-! DEFINITION. The ramp table WT[3], entries 0..2048, as listed in 41_wavetable_rom.md section 4 (rules R150 to R160):
rows of 16 entries, sixteen rows (256 entries) a piece, and the guard entry 2048 as the last piece. -/

namespace Sys2Proof.Machine

/-- WT[3] entries 0 to 255. -/
def rampPiece0 : List (List Int) :=
  [[0, 4678, 9146, 13208, 16703, 19515, 21579, 22888, 23488, 23472, 22971, 22135, 21125, 20090, 19163, 18441],
   [17989, 17827, 17941, 18284, 18785, 19364, 19934, 20421, 20766, 20934, 20914, 20720, 20387, 19967, 19518, 19097],
   [18755, 18529, 18440, 18490, 18660, 18919, 19226, 19536, 19805, 19997, 20087, 20066, 19940, 19727, 19456, 19163],
   [18886, 18657, 18503, 18438, 18464, 18573, 18745, 18950, 19159, 19341, 19470, 19528, 19508, 19411, 19251, 19048],
   [18828, 18619, 18444, 18324, 18271, 18287, 18365, 18490, 18642, 18798, 18933, 19028, 19069, 19048, 18968, 18838],
   [18674, 18496, 18326, 18184, 18084, 18038, 18047, 18106, 18204, 18323, 18445, 18552, 18625, 18654, 18634, 18564],
   [18453, 18315, 18165, 18020, 17899, 17813, 17772, 17776, 17822, 17901, 17998, 18098, 18184, 18243, 18265, 18244],
   [18182, 18085, 17964, 17833, 17707, 17600, 17524, 17486, 17487, 17524, 17589, 17670, 17754, 17826, 17874, 17890],
   [17869, 17813, 17725, 17617, 17501, 17388, 17293, 17224, 17188, 17187, 17217, 17272, 17341, 17412, 17473, 17513],
   [17525, 17504, 17452, 17372, 17274, 17168, 17066, 16979, 16916, 16882, 16879, 16904, 16951, 17011, 17072, 17125],
   [17158, 17167, 17146, 17096, 17023, 16933, 16836, 16742, 16662, 16603, 16570, 16566, 16586, 16627, 16679, 16733],
   [16779, 16807, 16813, 16792, 16745, 16677, 16593, 16503, 16416, 16341, 16286, 16255, 16249, 16266, 16302, 16347],
   [16395, 16435, 16459, 16462, 16442, 16397, 16333, 16254, 16170, 16088, 16018, 15966, 15936, 15929, 15943, 15974],
   [16015, 16057, 16092, 16113, 16115, 16094, 16051, 15990, 15916, 15837, 15760, 15694, 15644, 15615, 15607, 15619],
   [15646, 15683, 15720, 15751, 15769, 15769, 15748, 15707, 15649, 15579, 15504, 15431, 15368, 15320, 15292, 15283],
   [15293, 15317, 15350, 15384, 15411, 15427, 15425, 15404, 15365, 15309, 15242, 15170, 15101, 15041, 14995, 14967]]

/-- WT[3] entries 256 to 511. -/
def rampPiece1 : List (List Int) :=
  [[14958, 14966, 14988, 15017, 15047, 15072, 15085, 15083, 15062, 15023, 14970, 14905, 14837, 14771, 14713, 14669],
   [14641, 14632, 14638, 14658, 14684, 14711, 14734, 14745, 14741, 14720, 14683, 14631, 14569, 14503, 14440, 14384],
   [14342, 14315, 14305, 14310, 14327, 14351, 14376, 14396, 14405, 14400, 14380, 14343, 14293, 14233, 14170, 14109],
   [14055, 14014, 13987, 13977, 13981, 13996, 14018, 14040, 14058, 14066, 14061, 14040, 14004, 13955, 13898, 13836],
   [13777, 13725, 13685, 13659, 13648, 13651, 13664, 13684, 13705, 13721, 13728, 13721, 13700, 13665, 13618, 13562],
   [13503, 13445, 13395, 13356, 13330, 13319, 13321, 13333, 13351, 13370, 13384, 13389, 13383, 13362, 13327, 13281],
   [13227, 13169, 13113, 13064, 13026, 13001, 12989, 12990, 13001, 13017, 13035, 13047, 13052, 13044, 13023, 12989],
   [12944, 12891, 12836, 12781, 12734, 12696, 12671, 12659, 12659, 12669, 12684, 12700, 12711, 12714, 12706, 12686],
   [12652, 12608, 12556, 12502, 12449, 12402, 12365, 12341, 12329, 12328, 12337, 12350, 12365, 12375, 12377, 12369],
   [12348, 12315, 12272, 12221, 12168, 12117, 12071, 12035, 12010, 11998, 11997, 12004, 12017, 12030, 12039, 12041],
   [12032, 12011, 11978, 11936, 11886, 11834, 11784, 11739, 11704, 11679, 11667, 11665, 11672, 11683, 11695, 11703],
   [11704, 11695, 11674, 11642, 11600, 11552, 11501, 11451, 11407, 11372, 11348, 11335, 11333, 11339, 11349, 11360],
   [11368, 11368, 11358, 11337, 11305, 11264, 11217, 11167, 11118, 11075, 11041, 11017, 11004, 11001, 11006, 11016],
   [11026, 11032, 11032, 11022, 11001, 10969, 10929, 10882, 10833, 10785, 10743, 10709, 10685, 10672, 10669, 10673],
   [10682, 10691, 10697, 10696, 10686, 10665, 10633, 10593, 10548, 10499, 10452, 10411, 10377, 10354, 10340, 10337],
   [10340, 10348, 10357, 10362, 10360, 10349, 10329, 10298, 10258, 10213, 10165, 10119, 10078, 10045, 10022, 10008]]

/-- WT[3] entries 512 to 767. -/
def rampPiece2 : List (List Int) :=
  [[10004, 10007, 10015, 10022, 10027, 10025, 10014, 9993, 9962, 9923, 9878, 9832, 9786, 9746, 9713, 9690],
   [9676, 9672, 9674, 9681, 9688, 9692, 9689, 9678, 9657, 9626, 9588, 9544, 9498, 9453, 9413, 9381],
   [9357, 9344, 9339, 9341, 9347, 9353, 9357, 9354, 9342, 9321, 9291, 9253, 9209, 9164, 9120, 9080],
   [9048, 9025, 9011, 9006, 9008, 9013, 9019, 9022, 9018, 9007, 8986, 8956, 8918, 8875, 8830, 8786],
   [8747, 8716, 8693, 8679, 8674, 8675, 8680, 8685, 8687, 8683, 8671, 8650, 8620, 8583, 8541, 8496],
   [8453, 8414, 8383, 8360, 8346, 8341, 8341, 8346, 8350, 8352, 8348, 8336, 8315, 8285, 8248, 8206],
   [8162, 8120, 8081, 8050, 8027, 8014, 8008, 8008, 8012, 8016, 8017, 8013, 8001, 7980, 7950, 7914],
   [7872, 7828, 7786, 7748, 7717, 7695, 7681, 7675, 7675, 7678, 7682, 7683, 7678, 7666, 7645, 7615],
   [7579, 7538, 7494, 7453, 7415, 7384, 7362, 7348, 7342, 7341, 7344, 7348, 7348, 7343, 7331, 7310],
   [7280, 7244, 7203, 7161, 7119, 7082, 7051, 7029, 7015, 7008, 7008, 7011, 7014, 7014, 7008, 6996],
   [6975, 6946, 6910, 6869, 6827, 6786, 6749, 6718, 6696, 6682, 6675, 6674, 6677, 6679, 6679, 6674],
   [6661, 6640, 6611, 6575, 6535, 6493, 6452, 6415, 6385, 6363, 6349, 6342, 6341, 6343, 6345, 6345],
   [6339, 6326, 6305, 6276, 6240, 6200, 6159, 6118, 6082, 6052, 6030, 6016, 6009, 6007, 6009, 6011],
   [6010, 6004, 5991, 5970, 5941, 5906, 5866, 5825, 5785, 5749, 5719, 5697, 5682, 5675, 5674, 5675],
   [5677, 5676, 5670, 5657, 5635, 5607, 5572, 5532, 5491, 5451, 5415, 5385, 5363, 5349, 5342, 5340],
   [5341, 5343, 5342, 5335, 5322, 5301, 5272, 5237, 5198, 5157, 5117, 5082, 5052, 5030, 5016, 5008]]

/-- WT[3] entries 768 to 1023. -/
def rampPiece3 : List (List Int) :=
  [[5007, 5008, 5009, 5007, 5001, 4987, 4966, 4938, 4903, 4864, 4823, 4784, 4748, 4719, 4697, 4682],
   [4675, 4673, 4674, 4675, 4673, 4666, 4653, 4632, 4603, 4568, 4529, 4489, 4450, 4415, 4385, 4363],
   [4349, 4341, 4339, 4340, 4341, 4339, 4332, 4318, 4297, 4269, 4234, 4195, 4155, 4116, 4081, 4052],
   [4030, 4015, 4008, 4005, 4006, 4007, 4005, 3998, 3984, 3963, 3934, 3900, 3861, 3821, 3782, 3747],
   [3718, 3696, 3682, 3674, 3672, 3672, 3673, 3670, 3663, 3649, 3628, 3600, 3565, 3527, 3487, 3448],
   [3414, 3385, 3363, 3348, 3341, 3338, 3338, 3339, 3336, 3329, 3315, 3294, 3266, 3231, 3193, 3153],
   [3115, 3080, 3051, 3029, 3015, 3007, 3004, 3004, 3005, 3002, 2995, 2981, 2960, 2931, 2897, 2859],
   [2819, 2781, 2746, 2717, 2696, 2681, 2673, 2671, 2670, 2671, 2668, 2661, 2647, 2625, 2597, 2563],
   [2525, 2485, 2447, 2412, 2384, 2362, 2347, 2340, 2337, 2337, 2337, 2334, 2326, 2312, 2291, 2263],
   [2229, 2191, 2151, 2113, 2079, 2050, 2028, 2014, 2006, 2003, 2003, 2003, 2000, 1992, 1978, 1957],
   [1929, 1894, 1856, 1817, 1779, 1745, 1716, 1694, 1680, 1672, 1669, 1669, 1669, 1666, 1658, 1644],
   [1623, 1594, 1560, 1522, 1483, 1445, 1411, 1382, 1361, 1346, 1338, 1335, 1335, 1335, 1332, 1324],
   [1310, 1289, 1260, 1226, 1188, 1149, 1111, 1077, 1048, 1027, 1012, 1005, 1002, 1001, 1001, 998],
   [990, 976, 954, 926, 892, 854, 815, 777, 743, 715, 693, 679, 671, 668, 667, 667],
   [664, 656, 642, 620, 592, 558, 520, 481, 443, 409, 381, 359, 345, 337, 334, 333],
   [333, 330, 322, 308, 286, 258, 224, 186, 147, 109, 75, 47, 25, 11, 3, 0]]

/-- WT[3] entries 1024 to 1279. -/
def rampPiece4 : List (List Int) :=
  [[0, 0, -3, -11, -25, -47, -75, -109, -147, -186, -224, -258, -286, -308, -322, -330],
   [-333, -333, -334, -337, -345, -359, -381, -409, -443, -481, -520, -558, -592, -620, -642, -656],
   [-664, -667, -667, -668, -671, -679, -693, -715, -743, -777, -815, -854, -892, -926, -954, -976],
   [-990, -998, -1001, -1001, -1002, -1005, -1012, -1027, -1048, -1077, -1111, -1149, -1188, -1226, -1260, -1289],
   [-1310, -1324, -1332, -1335, -1335, -1335, -1338, -1346, -1361, -1382, -1411, -1445, -1483, -1522, -1560, -1594],
   [-1623, -1644, -1658, -1666, -1669, -1669, -1669, -1672, -1680, -1694, -1716, -1745, -1779, -1817, -1856, -1894],
   [-1929, -1957, -1978, -1992, -2000, -2003, -2003, -2003, -2006, -2014, -2028, -2050, -2079, -2113, -2151, -2191],
   [-2229, -2263, -2291, -2312, -2326, -2334, -2337, -2337, -2337, -2340, -2347, -2362, -2384, -2412, -2447, -2485],
   [-2525, -2563, -2597, -2625, -2647, -2661, -2668, -2671, -2670, -2671, -2673, -2681, -2696, -2717, -2746, -2781],
   [-2819, -2859, -2897, -2931, -2960, -2981, -2995, -3002, -3005, -3004, -3004, -3007, -3015, -3029, -3051, -3080],
   [-3115, -3153, -3193, -3231, -3266, -3294, -3315, -3329, -3336, -3339, -3338, -3338, -3341, -3348, -3363, -3385],
   [-3414, -3448, -3487, -3527, -3565, -3600, -3628, -3649, -3663, -3670, -3673, -3672, -3672, -3674, -3682, -3696],
   [-3718, -3747, -3782, -3821, -3861, -3900, -3934, -3963, -3984, -3998, -4005, -4007, -4006, -4005, -4008, -4015],
   [-4030, -4052, -4081, -4116, -4155, -4195, -4234, -4269, -4297, -4318, -4332, -4339, -4341, -4340, -4339, -4341],
   [-4349, -4363, -4385, -4415, -4450, -4489, -4529, -4568, -4603, -4632, -4653, -4666, -4673, -4675, -4674, -4673],
   [-4675, -4682, -4697, -4719, -4748, -4784, -4823, -4864, -4903, -4938, -4966, -4987, -5001, -5007, -5009, -5008]]

/-- WT[3] entries 1280 to 1535. -/
def rampPiece5 : List (List Int) :=
  [[-5007, -5008, -5016, -5030, -5052, -5082, -5117, -5157, -5198, -5237, -5272, -5301, -5322, -5335, -5342, -5343],
   [-5341, -5340, -5342, -5349, -5363, -5385, -5415, -5451, -5491, -5532, -5572, -5607, -5635, -5657, -5670, -5676],
   [-5677, -5675, -5674, -5675, -5682, -5697, -5719, -5749, -5785, -5825, -5866, -5906, -5941, -5970, -5991, -6004],
   [-6010, -6011, -6009, -6007, -6009, -6016, -6030, -6052, -6082, -6118, -6159, -6200, -6240, -6276, -6305, -6326],
   [-6339, -6345, -6345, -6343, -6341, -6342, -6349, -6363, -6385, -6415, -6452, -6493, -6535, -6575, -6611, -6640],
   [-6661, -6674, -6679, -6679, -6677, -6674, -6675, -6682, -6696, -6718, -6749, -6786, -6827, -6869, -6910, -6946],
   [-6975, -6996, -7008, -7014, -7014, -7011, -7008, -7008, -7015, -7029, -7051, -7082, -7119, -7161, -7203, -7244],
   [-7280, -7310, -7331, -7343, -7348, -7348, -7344, -7341, -7342, -7348, -7362, -7384, -7415, -7453, -7494, -7538],
   [-7579, -7615, -7645, -7666, -7678, -7683, -7682, -7678, -7675, -7675, -7681, -7695, -7717, -7748, -7786, -7828],
   [-7872, -7914, -7950, -7980, -8001, -8013, -8017, -8016, -8012, -8008, -8008, -8014, -8027, -8050, -8081, -8120],
   [-8162, -8206, -8248, -8285, -8315, -8336, -8348, -8352, -8350, -8346, -8341, -8341, -8346, -8360, -8383, -8414],
   [-8453, -8496, -8541, -8583, -8620, -8650, -8671, -8683, -8687, -8685, -8680, -8675, -8674, -8679, -8693, -8716],
   [-8747, -8786, -8830, -8875, -8918, -8956, -8986, -9007, -9018, -9022, -9019, -9013, -9008, -9006, -9011, -9025],
   [-9048, -9080, -9120, -9164, -9209, -9253, -9291, -9321, -9342, -9354, -9357, -9353, -9347, -9341, -9339, -9344],
   [-9357, -9381, -9413, -9453, -9498, -9544, -9588, -9626, -9657, -9678, -9689, -9692, -9688, -9681, -9674, -9672],
   [-9676, -9690, -9713, -9746, -9786, -9832, -9878, -9923, -9962, -9993, -10014, -10025, -10027, -10022, -10015, -10007]]

/-- WT[3] entries 1536 to 1791. -/
def rampPiece6 : List (List Int) :=
  [[-10004, -10008, -10022, -10045, -10078, -10119, -10165, -10213, -10258, -10298, -10329, -10349, -10360, -10362, -10357, -10348],
   [-10340, -10337, -10340, -10354, -10377, -10411, -10452, -10499, -10548, -10593, -10633, -10665, -10686, -10696, -10697, -10691],
   [-10682, -10673, -10669, -10672, -10685, -10709, -10743, -10785, -10833, -10882, -10929, -10969, -11001, -11022, -11032, -11032],
   [-11026, -11016, -11006, -11001, -11004, -11017, -11041, -11075, -11118, -11167, -11217, -11264, -11305, -11337, -11358, -11368],
   [-11368, -11360, -11349, -11339, -11333, -11335, -11348, -11372, -11407, -11451, -11501, -11552, -11600, -11642, -11674, -11695],
   [-11704, -11703, -11695, -11683, -11672, -11665, -11667, -11679, -11704, -11739, -11784, -11834, -11886, -11936, -11978, -12011],
   [-12032, -12041, -12039, -12030, -12017, -12004, -11997, -11998, -12010, -12035, -12071, -12117, -12168, -12221, -12272, -12315],
   [-12348, -12369, -12377, -12375, -12365, -12350, -12337, -12328, -12329, -12341, -12365, -12402, -12449, -12502, -12556, -12608],
   [-12652, -12686, -12706, -12714, -12711, -12700, -12684, -12669, -12659, -12659, -12671, -12696, -12734, -12781, -12836, -12891],
   [-12944, -12989, -13023, -13044, -13052, -13047, -13035, -13017, -13001, -12990, -12989, -13001, -13026, -13064, -13113, -13169],
   [-13227, -13281, -13327, -13362, -13383, -13389, -13384, -13370, -13351, -13333, -13321, -13319, -13330, -13356, -13395, -13445],
   [-13503, -13562, -13618, -13665, -13700, -13721, -13728, -13721, -13705, -13684, -13664, -13651, -13648, -13659, -13685, -13725],
   [-13777, -13836, -13898, -13955, -14004, -14040, -14061, -14066, -14058, -14040, -14018, -13996, -13981, -13977, -13987, -14014],
   [-14055, -14109, -14170, -14233, -14293, -14343, -14380, -14400, -14405, -14396, -14376, -14351, -14327, -14310, -14305, -14315],
   [-14342, -14384, -14440, -14503, -14569, -14631, -14683, -14720, -14741, -14745, -14734, -14711, -14684, -14658, -14638, -14632],
   [-14641, -14669, -14713, -14771, -14837, -14905, -14970, -15023, -15062, -15083, -15085, -15072, -15047, -15017, -14988, -14966]]

/-- WT[3] entries 1792 to 2047. -/
def rampPiece7 : List (List Int) :=
  [[-14958, -14967, -14995, -15041, -15101, -15170, -15242, -15309, -15365, -15404, -15425, -15427, -15411, -15384, -15350, -15317],
   [-15293, -15283, -15292, -15320, -15368, -15431, -15504, -15579, -15649, -15707, -15748, -15769, -15769, -15751, -15720, -15683],
   [-15646, -15619, -15607, -15615, -15644, -15694, -15760, -15837, -15916, -15990, -16051, -16094, -16115, -16113, -16092, -16057],
   [-16015, -15974, -15943, -15929, -15936, -15966, -16018, -16088, -16170, -16254, -16333, -16397, -16442, -16462, -16459, -16435],
   [-16395, -16347, -16302, -16266, -16249, -16255, -16286, -16341, -16416, -16503, -16593, -16677, -16745, -16792, -16813, -16807],
   [-16779, -16733, -16679, -16627, -16586, -16566, -16570, -16603, -16662, -16742, -16836, -16933, -17023, -17096, -17146, -17167],
   [-17158, -17125, -17072, -17011, -16951, -16904, -16879, -16882, -16916, -16979, -17066, -17168, -17274, -17372, -17452, -17504],
   [-17525, -17513, -17473, -17412, -17341, -17272, -17217, -17187, -17188, -17224, -17293, -17388, -17501, -17617, -17725, -17813],
   [-17869, -17890, -17874, -17826, -17754, -17670, -17589, -17524, -17487, -17486, -17524, -17600, -17707, -17833, -17964, -18085],
   [-18182, -18244, -18265, -18243, -18184, -18098, -17998, -17901, -17822, -17776, -17772, -17813, -17899, -18020, -18165, -18315],
   [-18453, -18564, -18634, -18654, -18625, -18552, -18445, -18323, -18204, -18106, -18047, -18038, -18084, -18184, -18326, -18496],
   [-18674, -18838, -18968, -19048, -19069, -19028, -18933, -18798, -18642, -18490, -18365, -18287, -18271, -18324, -18444, -18619],
   [-18828, -19048, -19251, -19411, -19508, -19528, -19470, -19341, -19159, -18950, -18745, -18573, -18464, -18438, -18503, -18657],
   [-18886, -19163, -19456, -19727, -19940, -20066, -20087, -19997, -19805, -19536, -19226, -18919, -18660, -18490, -18440, -18529],
   [-18755, -19097, -19518, -19967, -20387, -20720, -20914, -20934, -20766, -20421, -19934, -19364, -18785, -18284, -17941, -17827],
   [-17989, -18441, -19163, -20090, -21125, -22135, -22971, -23472, -23488, -22888, -21579, -19515, -16703, -13208, -9146, -4678]]

/-- WT[3], piece by piece; the last piece is the guard entry, equal to entry 0 (rule R152). -/
def rampTable : List (List (List Int)) :=
  [rampPiece0, rampPiece1, rampPiece2, rampPiece3, rampPiece4, rampPiece5, rampPiece6, rampPiece7, [[0]]]

end Sys2Proof.Machine
end

