-- ==== Sys2Proof/Machine/WaveSine.lean ====
section
/-! DEFINITION. The sine table WT[0], entries 0..2048, as listed in 41_wavetable_rom.md section 4 (rules R150 to R160):
rows of 16 entries, sixteen rows (256 entries) a piece, and the guard entry 2048 as the last piece. -/

namespace Sys2Proof.Machine

/-- WT[0] entries 0 to 255. -/
def sinePiece0 : List (List Int) :=
  [[0, 50, 100, 150, 201, 251, 301, 351, 402, 452, 502, 552, 603, 653, 703, 753],
   [803, 854, 904, 954, 1004, 1054, 1104, 1155, 1205, 1255, 1305, 1355, 1405, 1455, 1505, 1555],
   [1605, 1655, 1705, 1755, 1805, 1855, 1905, 1955, 2005, 2055, 2105, 2155, 2204, 2254, 2304, 2354],
   [2403, 2453, 2503, 2552, 2602, 2652, 2701, 2751, 2800, 2850, 2899, 2949, 2998, 3048, 3097, 3146],
   [3196, 3245, 3294, 3343, 3393, 3442, 3491, 3540, 3589, 3638, 3687, 3736, 3785, 3834, 3883, 3931],
   [3980, 4029, 4078, 4126, 4175, 4224, 4272, 4321, 4369, 4417, 4466, 4514, 4562, 4611, 4659, 4707],
   [4755, 4803, 4851, 4899, 4947, 4995, 5043, 5091, 5139, 5186, 5234, 5282, 5329, 5377, 5424, 5471],
   [5519, 5566, 5613, 5661, 5708, 5755, 5802, 5849, 5896, 5943, 5989, 6036, 6083, 6129, 6176, 6223],
   [6269, 6315, 6362, 6408, 6454, 6500, 6547, 6593, 6639, 6684, 6730, 6776, 6822, 6868, 6913, 6959],
   [7004, 7050, 7095, 7140, 7185, 7230, 7276, 7321, 7365, 7410, 7455, 7500, 7545, 7589, 7634, 7678],
   [7722, 7767, 7811, 7855, 7899, 7943, 7987, 8031, 8075, 8118, 8162, 8206, 8249, 8292, 8336, 8379],
   [8422, 8465, 8508, 8551, 8594, 8637, 8679, 8722, 8764, 8807, 8849, 8891, 8934, 8976, 9018, 9060],
   [9101, 9143, 9185, 9226, 9268, 9309, 9351, 9392, 9433, 9474, 9515, 9556, 9597, 9637, 9678, 9718],
   [9759, 9799, 9839, 9880, 9920, 9960, 9999, 10039, 10079, 10118, 10158, 10197, 10237, 10276, 10315, 10354],
   [10393, 10432, 10470, 10509, 10547, 10586, 10624, 10662, 10700, 10738, 10776, 10814, 10852, 10889, 10927, 10964],
   [11002, 11039, 11076, 11113, 11150, 11187, 11223, 11260, 11296, 11333, 11369, 11405, 11441, 11477, 11513, 11548]]

/-- WT[0] entries 256 to 511. -/
def sinePiece1 : List (List Int) :=
  [[11584, 11620, 11655, 11690, 11725, 11760, 11795, 11830, 11865, 11899, 11934, 11968, 12003, 12037, 12071, 12105],
   [12139, 12172, 12206, 12239, 12273, 12306, 12339, 12372, 12405, 12438, 12470, 12503, 12535, 12568, 12600, 12632],
   [12664, 12696, 12727, 12759, 12790, 12822, 12853, 12884, 12915, 12946, 12977, 13007, 13038, 13068, 13098, 13128],
   [13158, 13188, 13218, 13248, 13277, 13307, 13336, 13365, 13394, 13423, 13452, 13480, 13509, 13537, 13565, 13593],
   [13621, 13649, 13677, 13705, 13732, 13759, 13787, 13814, 13841, 13868, 13894, 13921, 13947, 13974, 14000, 14026],
   [14052, 14077, 14103, 14129, 14154, 14179, 14204, 14229, 14254, 14279, 14303, 14328, 14352, 14376, 14400, 14424],
   [14448, 14472, 14495, 14518, 14542, 14565, 14588, 14611, 14633, 14656, 14678, 14700, 14722, 14744, 14766, 14788],
   [14810, 14831, 14852, 14873, 14894, 14915, 14936, 14957, 14977, 14997, 15017, 15037, 15057, 15077, 15097, 15116],
   [15135, 15155, 15174, 15192, 15211, 15230, 15248, 15267, 15285, 15303, 15321, 15338, 15356, 15373, 15391, 15408],
   [15425, 15442, 15458, 15475, 15491, 15508, 15524, 15540, 15556, 15571, 15587, 15602, 15618, 15633, 15648, 15662],
   [15677, 15692, 15706, 15720, 15734, 15748, 15762, 15776, 15789, 15802, 15816, 15829, 15841, 15854, 15867, 15879],
   [15892, 15904, 15916, 15927, 15939, 15951, 15962, 15973, 15984, 15995, 16006, 16017, 16027, 16038, 16048, 16058],
   [16068, 16077, 16087, 16096, 16106, 16115, 16124, 16133, 16141, 16150, 16158, 16166, 16174, 16182, 16190, 16198],
   [16205, 16212, 16220, 16227, 16233, 16240, 16247, 16253, 16259, 16265, 16271, 16277, 16283, 16288, 16293, 16299],
   [16304, 16308, 16313, 16318, 16322, 16326, 16330, 16334, 16338, 16342, 16345, 16349, 16352, 16355, 16358, 16360],
   [16363, 16365, 16367, 16369, 16371, 16373, 16375, 16376, 16378, 16379, 16380, 16381, 16381, 16382, 16382, 16382]]

/-- WT[0] entries 512 to 767. -/
def sinePiece2 : List (List Int) :=
  [[16383, 16382, 16382, 16382, 16381, 16381, 16380, 16379, 16378, 16376, 16375, 16373, 16371, 16369, 16367, 16365],
   [16363, 16360, 16358, 16355, 16352, 16349, 16345, 16342, 16338, 16334, 16330, 16326, 16322, 16318, 16313, 16308],
   [16304, 16299, 16293, 16288, 16283, 16277, 16271, 16265, 16259, 16253, 16247, 16240, 16233, 16227, 16220, 16212],
   [16205, 16198, 16190, 16182, 16174, 16166, 16158, 16150, 16141, 16133, 16124, 16115, 16106, 16096, 16087, 16077],
   [16068, 16058, 16048, 16038, 16027, 16017, 16006, 15995, 15984, 15973, 15962, 15951, 15939, 15927, 15916, 15904],
   [15892, 15879, 15867, 15854, 15841, 15829, 15816, 15802, 15789, 15776, 15762, 15748, 15734, 15720, 15706, 15692],
   [15677, 15662, 15648, 15633, 15618, 15602, 15587, 15571, 15556, 15540, 15524, 15508, 15491, 15475, 15458, 15442],
   [15425, 15408, 15391, 15373, 15356, 15338, 15321, 15303, 15285, 15267, 15248, 15230, 15211, 15192, 15174, 15155],
   [15135, 15116, 15097, 15077, 15057, 15037, 15017, 14997, 14977, 14957, 14936, 14915, 14894, 14873, 14852, 14831],
   [14810, 14788, 14766, 14744, 14722, 14700, 14678, 14656, 14633, 14611, 14588, 14565, 14542, 14518, 14495, 14472],
   [14448, 14424, 14400, 14376, 14352, 14328, 14303, 14279, 14254, 14229, 14204, 14179, 14154, 14129, 14103, 14077],
   [14052, 14026, 14000, 13974, 13947, 13921, 13894, 13868, 13841, 13814, 13787, 13759, 13732, 13705, 13677, 13649],
   [13621, 13593, 13565, 13537, 13509, 13480, 13452, 13423, 13394, 13365, 13336, 13307, 13277, 13248, 13218, 13188],
   [13158, 13128, 13098, 13068, 13038, 13007, 12977, 12946, 12915, 12884, 12853, 12822, 12790, 12759, 12727, 12696],
   [12664, 12632, 12600, 12568, 12535, 12503, 12470, 12438, 12405, 12372, 12339, 12306, 12273, 12239, 12206, 12172],
   [12139, 12105, 12071, 12037, 12003, 11968, 11934, 11899, 11865, 11830, 11795, 11760, 11725, 11690, 11655, 11620]]

/-- WT[0] entries 768 to 1023. -/
def sinePiece3 : List (List Int) :=
  [[11584, 11548, 11513, 11477, 11441, 11405, 11369, 11333, 11296, 11260, 11223, 11187, 11150, 11113, 11076, 11039],
   [11002, 10964, 10927, 10889, 10852, 10814, 10776, 10738, 10700, 10662, 10624, 10586, 10547, 10509, 10470, 10432],
   [10393, 10354, 10315, 10276, 10237, 10197, 10158, 10118, 10079, 10039, 9999, 9960, 9920, 9880, 9839, 9799],
   [9759, 9718, 9678, 9637, 9597, 9556, 9515, 9474, 9433, 9392, 9351, 9309, 9268, 9226, 9185, 9143],
   [9101, 9060, 9018, 8976, 8934, 8891, 8849, 8807, 8764, 8722, 8679, 8637, 8594, 8551, 8508, 8465],
   [8422, 8379, 8336, 8292, 8249, 8206, 8162, 8118, 8075, 8031, 7987, 7943, 7899, 7855, 7811, 7767],
   [7722, 7678, 7634, 7589, 7545, 7500, 7455, 7410, 7365, 7321, 7276, 7230, 7185, 7140, 7095, 7050],
   [7004, 6959, 6913, 6868, 6822, 6776, 6730, 6684, 6639, 6593, 6547, 6500, 6454, 6408, 6362, 6315],
   [6269, 6223, 6176, 6129, 6083, 6036, 5989, 5943, 5896, 5849, 5802, 5755, 5708, 5661, 5613, 5566],
   [5519, 5471, 5424, 5377, 5329, 5282, 5234, 5186, 5139, 5091, 5043, 4995, 4947, 4899, 4851, 4803],
   [4755, 4707, 4659, 4611, 4562, 4514, 4466, 4417, 4369, 4321, 4272, 4224, 4175, 4126, 4078, 4029],
   [3980, 3931, 3883, 3834, 3785, 3736, 3687, 3638, 3589, 3540, 3491, 3442, 3393, 3343, 3294, 3245],
   [3196, 3146, 3097, 3048, 2998, 2949, 2899, 2850, 2800, 2751, 2701, 2652, 2602, 2552, 2503, 2453],
   [2403, 2354, 2304, 2254, 2204, 2155, 2105, 2055, 2005, 1955, 1905, 1855, 1805, 1755, 1705, 1655],
   [1605, 1555, 1505, 1455, 1405, 1355, 1305, 1255, 1205, 1155, 1104, 1054, 1004, 954, 904, 854],
   [803, 753, 703, 653, 603, 552, 502, 452, 402, 351, 301, 251, 201, 150, 100, 50]]

/-- WT[0] entries 1024 to 1279. -/
def sinePiece4 : List (List Int) :=
  [[0, -50, -100, -150, -201, -251, -301, -351, -402, -452, -502, -552, -603, -653, -703, -753],
   [-803, -854, -904, -954, -1004, -1054, -1104, -1155, -1205, -1255, -1305, -1355, -1405, -1455, -1505, -1555],
   [-1605, -1655, -1705, -1755, -1805, -1855, -1905, -1955, -2005, -2055, -2105, -2155, -2204, -2254, -2304, -2354],
   [-2403, -2453, -2503, -2552, -2602, -2652, -2701, -2751, -2800, -2850, -2899, -2949, -2998, -3048, -3097, -3146],
   [-3196, -3245, -3294, -3343, -3393, -3442, -3491, -3540, -3589, -3638, -3687, -3736, -3785, -3834, -3883, -3931],
   [-3980, -4029, -4078, -4126, -4175, -4224, -4272, -4321, -4369, -4417, -4466, -4514, -4562, -4611, -4659, -4707],
   [-4755, -4803, -4851, -4899, -4947, -4995, -5043, -5091, -5139, -5186, -5234, -5282, -5329, -5377, -5424, -5471],
   [-5519, -5566, -5613, -5661, -5708, -5755, -5802, -5849, -5896, -5943, -5989, -6036, -6083, -6129, -6176, -6223],
   [-6269, -6315, -6362, -6408, -6454, -6500, -6547, -6593, -6639, -6684, -6730, -6776, -6822, -6868, -6913, -6959],
   [-7004, -7050, -7095, -7140, -7185, -7230, -7276, -7321, -7365, -7410, -7455, -7500, -7545, -7589, -7634, -7678],
   [-7722, -7767, -7811, -7855, -7899, -7943, -7987, -8031, -8075, -8118, -8162, -8206, -8249, -8292, -8336, -8379],
   [-8422, -8465, -8508, -8551, -8594, -8637, -8679, -8722, -8764, -8807, -8849, -8891, -8934, -8976, -9018, -9060],
   [-9101, -9143, -9185, -9226, -9268, -9309, -9351, -9392, -9433, -9474, -9515, -9556, -9597, -9637, -9678, -9718],
   [-9759, -9799, -9839, -9880, -9920, -9960, -9999, -10039, -10079, -10118, -10158, -10197, -10237, -10276, -10315, -10354],
   [-10393, -10432, -10470, -10509, -10547, -10586, -10624, -10662, -10700, -10738, -10776, -10814, -10852, -10889, -10927, -10964],
   [-11002, -11039, -11076, -11113, -11150, -11187, -11223, -11260, -11296, -11333, -11369, -11405, -11441, -11477, -11513, -11548]]

/-- WT[0] entries 1280 to 1535. -/
def sinePiece5 : List (List Int) :=
  [[-11584, -11620, -11655, -11690, -11725, -11760, -11795, -11830, -11865, -11899, -11934, -11968, -12003, -12037, -12071, -12105],
   [-12139, -12172, -12206, -12239, -12273, -12306, -12339, -12372, -12405, -12438, -12470, -12503, -12535, -12568, -12600, -12632],
   [-12664, -12696, -12727, -12759, -12790, -12822, -12853, -12884, -12915, -12946, -12977, -13007, -13038, -13068, -13098, -13128],
   [-13158, -13188, -13218, -13248, -13277, -13307, -13336, -13365, -13394, -13423, -13452, -13480, -13509, -13537, -13565, -13593],
   [-13621, -13649, -13677, -13705, -13732, -13759, -13787, -13814, -13841, -13868, -13894, -13921, -13947, -13974, -14000, -14026],
   [-14052, -14077, -14103, -14129, -14154, -14179, -14204, -14229, -14254, -14279, -14303, -14328, -14352, -14376, -14400, -14424],
   [-14448, -14472, -14495, -14518, -14542, -14565, -14588, -14611, -14633, -14656, -14678, -14700, -14722, -14744, -14766, -14788],
   [-14810, -14831, -14852, -14873, -14894, -14915, -14936, -14957, -14977, -14997, -15017, -15037, -15057, -15077, -15097, -15116],
   [-15135, -15155, -15174, -15192, -15211, -15230, -15248, -15267, -15285, -15303, -15321, -15338, -15356, -15373, -15391, -15408],
   [-15425, -15442, -15458, -15475, -15491, -15508, -15524, -15540, -15556, -15571, -15587, -15602, -15618, -15633, -15648, -15662],
   [-15677, -15692, -15706, -15720, -15734, -15748, -15762, -15776, -15789, -15802, -15816, -15829, -15841, -15854, -15867, -15879],
   [-15892, -15904, -15916, -15927, -15939, -15951, -15962, -15973, -15984, -15995, -16006, -16017, -16027, -16038, -16048, -16058],
   [-16068, -16077, -16087, -16096, -16106, -16115, -16124, -16133, -16141, -16150, -16158, -16166, -16174, -16182, -16190, -16198],
   [-16205, -16212, -16220, -16227, -16233, -16240, -16247, -16253, -16259, -16265, -16271, -16277, -16283, -16288, -16293, -16299],
   [-16304, -16308, -16313, -16318, -16322, -16326, -16330, -16334, -16338, -16342, -16345, -16349, -16352, -16355, -16358, -16360],
   [-16363, -16365, -16367, -16369, -16371, -16373, -16375, -16376, -16378, -16379, -16380, -16381, -16381, -16382, -16382, -16382]]

/-- WT[0] entries 1536 to 1791. -/
def sinePiece6 : List (List Int) :=
  [[-16383, -16382, -16382, -16382, -16381, -16381, -16380, -16379, -16378, -16376, -16375, -16373, -16371, -16369, -16367, -16365],
   [-16363, -16360, -16358, -16355, -16352, -16349, -16345, -16342, -16338, -16334, -16330, -16326, -16322, -16318, -16313, -16308],
   [-16304, -16299, -16293, -16288, -16283, -16277, -16271, -16265, -16259, -16253, -16247, -16240, -16233, -16227, -16220, -16212],
   [-16205, -16198, -16190, -16182, -16174, -16166, -16158, -16150, -16141, -16133, -16124, -16115, -16106, -16096, -16087, -16077],
   [-16068, -16058, -16048, -16038, -16027, -16017, -16006, -15995, -15984, -15973, -15962, -15951, -15939, -15927, -15916, -15904],
   [-15892, -15879, -15867, -15854, -15841, -15829, -15816, -15802, -15789, -15776, -15762, -15748, -15734, -15720, -15706, -15692],
   [-15677, -15662, -15648, -15633, -15618, -15602, -15587, -15571, -15556, -15540, -15524, -15508, -15491, -15475, -15458, -15442],
   [-15425, -15408, -15391, -15373, -15356, -15338, -15321, -15303, -15285, -15267, -15248, -15230, -15211, -15192, -15174, -15155],
   [-15135, -15116, -15097, -15077, -15057, -15037, -15017, -14997, -14977, -14957, -14936, -14915, -14894, -14873, -14852, -14831],
   [-14810, -14788, -14766, -14744, -14722, -14700, -14678, -14656, -14633, -14611, -14588, -14565, -14542, -14518, -14495, -14472],
   [-14448, -14424, -14400, -14376, -14352, -14328, -14303, -14279, -14254, -14229, -14204, -14179, -14154, -14129, -14103, -14077],
   [-14052, -14026, -14000, -13974, -13947, -13921, -13894, -13868, -13841, -13814, -13787, -13759, -13732, -13705, -13677, -13649],
   [-13621, -13593, -13565, -13537, -13509, -13480, -13452, -13423, -13394, -13365, -13336, -13307, -13277, -13248, -13218, -13188],
   [-13158, -13128, -13098, -13068, -13038, -13007, -12977, -12946, -12915, -12884, -12853, -12822, -12790, -12759, -12727, -12696],
   [-12664, -12632, -12600, -12568, -12535, -12503, -12470, -12438, -12405, -12372, -12339, -12306, -12273, -12239, -12206, -12172],
   [-12139, -12105, -12071, -12037, -12003, -11968, -11934, -11899, -11865, -11830, -11795, -11760, -11725, -11690, -11655, -11620]]

/-- WT[0] entries 1792 to 2047. -/
def sinePiece7 : List (List Int) :=
  [[-11584, -11548, -11513, -11477, -11441, -11405, -11369, -11333, -11296, -11260, -11223, -11187, -11150, -11113, -11076, -11039],
   [-11002, -10964, -10927, -10889, -10852, -10814, -10776, -10738, -10700, -10662, -10624, -10586, -10547, -10509, -10470, -10432],
   [-10393, -10354, -10315, -10276, -10237, -10197, -10158, -10118, -10079, -10039, -9999, -9960, -9920, -9880, -9839, -9799],
   [-9759, -9718, -9678, -9637, -9597, -9556, -9515, -9474, -9433, -9392, -9351, -9309, -9268, -9226, -9185, -9143],
   [-9101, -9060, -9018, -8976, -8934, -8891, -8849, -8807, -8764, -8722, -8679, -8637, -8594, -8551, -8508, -8465],
   [-8422, -8379, -8336, -8292, -8249, -8206, -8162, -8118, -8075, -8031, -7987, -7943, -7899, -7855, -7811, -7767],
   [-7722, -7678, -7634, -7589, -7545, -7500, -7455, -7410, -7365, -7321, -7276, -7230, -7185, -7140, -7095, -7050],
   [-7004, -6959, -6913, -6868, -6822, -6776, -6730, -6684, -6639, -6593, -6547, -6500, -6454, -6408, -6362, -6315],
   [-6269, -6223, -6176, -6129, -6083, -6036, -5989, -5943, -5896, -5849, -5802, -5755, -5708, -5661, -5613, -5566],
   [-5519, -5471, -5424, -5377, -5329, -5282, -5234, -5186, -5139, -5091, -5043, -4995, -4947, -4899, -4851, -4803],
   [-4755, -4707, -4659, -4611, -4562, -4514, -4466, -4417, -4369, -4321, -4272, -4224, -4175, -4126, -4078, -4029],
   [-3980, -3931, -3883, -3834, -3785, -3736, -3687, -3638, -3589, -3540, -3491, -3442, -3393, -3343, -3294, -3245],
   [-3196, -3146, -3097, -3048, -2998, -2949, -2899, -2850, -2800, -2751, -2701, -2652, -2602, -2552, -2503, -2453],
   [-2403, -2354, -2304, -2254, -2204, -2155, -2105, -2055, -2005, -1955, -1905, -1855, -1805, -1755, -1705, -1655],
   [-1605, -1555, -1505, -1455, -1405, -1355, -1305, -1255, -1205, -1155, -1104, -1054, -1004, -954, -904, -854],
   [-803, -753, -703, -653, -603, -552, -502, -452, -402, -351, -301, -251, -201, -150, -100, -50]]

/-- WT[0], piece by piece; the last piece is the guard entry, equal to entry 0 (rule R152). -/
def sineTable : List (List (List Int)) :=
  [sinePiece0, sinePiece1, sinePiece2, sinePiece3, sinePiece4, sinePiece5, sinePiece6, sinePiece7, [[0]]]

end Sys2Proof.Machine
end

