-- ==== Sys2Proof/Machine/WaveSquare.lean ====
section
/-! DEFINITION. The square table WT[1], entries 0..2048, as listed in 41_wavetable_rom.md section 4 (rules R150 to R160):
rows of 16 entries, sixteen rows (256 entries) a piece, and the guard entry 2048 as the last piece. -/

namespace Sys2Proof.Machine

/-- WT[1] entries 0 to 255. -/
def squarePiece0 : List (List Int) :=
  [[0, 2699, 5278, 7626, 9650, 11284, 12491, 13266, 13634, 13648, 13380, 12918, 12351, 11767, 11240, 10829],
   [10569, 10476, 10542, 10742, 11036, 11377, 11719, 12016, 12235, 12353, 12364, 12274, 12102, 11877, 11629, 11395],
   [11202, 11074, 11023, 11051, 11151, 11305, 11491, 11682, 11853, 11984, 12058, 12068, 12017, 11914, 11774, 11618],
   [11466, 11338, 11251, 11214, 11229, 11294, 11397, 11524, 11657, 11779, 11873, 11928, 11939, 11905, 11832, 11732],
   [11617, 11504, 11408, 11341, 11310, 11319, 11366, 11443, 11539, 11641, 11736, 11810, 11856, 11866, 11842, 11787],
   [11708, 11618, 11528, 11451, 11395, 11368, 11374, 11409, 11470, 11547, 11631, 11708, 11771, 11809, 11820, 11802],
   [11758, 11694, 11620, 11545, 11479, 11431, 11407, 11410, 11438, 11488, 11553, 11623, 11689, 11743, 11777, 11788],
   [11774, 11738, 11684, 11621, 11557, 11499, 11457, 11435, 11436, 11459, 11501, 11556, 11617, 11675, 11723, 11754],
   [11765, 11754, 11723, 11677, 11622, 11566, 11515, 11476, 11456, 11455, 11474, 11510, 11559, 11612, 11664, 11707],
   [11736, 11747, 11739, 11712, 11672, 11623, 11573, 11527, 11491, 11472, 11470, 11486, 11518, 11560, 11608, 11655],
   [11695, 11722, 11733, 11726, 11704, 11668, 11624, 11578, 11536, 11504, 11485, 11482, 11495, 11523, 11562, 11605],
   [11648, 11685, 11710, 11721, 11717, 11697, 11665, 11625, 11583, 11544, 11513, 11495, 11492, 11503, 11528, 11563],
   [11603, 11642, 11677, 11701, 11712, 11709, 11691, 11663, 11626, 11587, 11551, 11522, 11504, 11500, 11509, 11532],
   [11563, 11600, 11637, 11670, 11693, 11704, 11702, 11687, 11660, 11627, 11590, 11556, 11529, 11511, 11506, 11515],
   [11535, 11564, 11598, 11633, 11664, 11686, 11698, 11696, 11683, 11659, 11628, 11593, 11561, 11534, 11517, 11512],
   [11519, 11537, 11564, 11597, 11629, 11659, 11681, 11692, 11692, 11680, 11657, 11628, 11596, 11565, 11540, 11523]]

/-- WT[1] entries 256 to 511. -/
def squarePiece1 : List (List Int) :=
  [[11517, 11523, 11539, 11565, 11595, 11626, 11654, 11676, 11687, 11688, 11677, 11656, 11629, 11598, 11569, 11544],
   [11527, 11521, 11526, 11541, 11565, 11593, 11623, 11650, 11671, 11683, 11684, 11674, 11655, 11630, 11601, 11572],
   [11548, 11532, 11525, 11529, 11543, 11565, 11592, 11621, 11647, 11667, 11679, 11681, 11672, 11655, 11630, 11603],
   [11575, 11552, 11535, 11528, 11531, 11544, 11565, 11591, 11618, 11644, 11664, 11676, 11678, 11671, 11654, 11631],
   [11604, 11578, 11555, 11538, 11531, 11533, 11545, 11565, 11589, 11616, 11641, 11661, 11673, 11676, 11669, 11654],
   [11632, 11606, 11580, 11558, 11541, 11533, 11535, 11546, 11564, 11588, 11614, 11638, 11658, 11671, 11674, 11668],
   [11654, 11633, 11608, 11582, 11560, 11544, 11536, 11537, 11547, 11564, 11587, 11612, 11636, 11656, 11668, 11672],
   [11667, 11653, 11633, 11609, 11585, 11563, 11546, 11538, 11538, 11547, 11564, 11586, 11610, 11634, 11653, 11666],
   [11671, 11666, 11653, 11634, 11611, 11587, 11565, 11548, 11539, 11539, 11547, 11563, 11585, 11609, 11632, 11651],
   [11664, 11669, 11665, 11653, 11635, 11612, 11588, 11567, 11550, 11541, 11540, 11548, 11563, 11584, 11607, 11630],
   [11649, 11663, 11668, 11665, 11654, 11636, 11614, 11590, 11569, 11552, 11542, 11541, 11548, 11562, 11582, 11605],
   [11628, 11648, 11661, 11667, 11665, 11654, 11637, 11615, 11592, 11570, 11553, 11543, 11541, 11548, 11562, 11581],
   [11604, 11626, 11646, 11660, 11666, 11664, 11654, 11638, 11616, 11593, 11572, 11555, 11544, 11542, 11548, 11561],
   [11580, 11602, 11625, 11645, 11659, 11666, 11664, 11655, 11639, 11618, 11595, 11574, 11556, 11545, 11542, 11547],
   [11560, 11579, 11601, 11623, 11643, 11658, 11665, 11664, 11655, 11640, 11619, 11596, 11575, 11557, 11546, 11542],
   [11547, 11559, 11578, 11599, 11622, 11642, 11657, 11665, 11664, 11656, 11641, 11620, 11598, 11576, 11558, 11547]]

/-- WT[1] entries 512 to 767. -/
def squarePiece2 : List (List Int) :=
  [[11542, 11547, 11558, 11576, 11598, 11620, 11641, 11656, 11664, 11665, 11657, 11642, 11622, 11599, 11578, 11559],
   [11547, 11542, 11546, 11557, 11575, 11596, 11619, 11640, 11655, 11664, 11665, 11658, 11643, 11623, 11601, 11579],
   [11560, 11547, 11542, 11545, 11556, 11574, 11595, 11618, 11639, 11655, 11664, 11666, 11659, 11645, 11625, 11602],
   [11580, 11561, 11548, 11542, 11544, 11555, 11572, 11593, 11616, 11638, 11654, 11664, 11666, 11660, 11646, 11626],
   [11604, 11581, 11562, 11548, 11541, 11543, 11553, 11570, 11592, 11615, 11637, 11654, 11665, 11667, 11661, 11648],
   [11628, 11605, 11582, 11562, 11548, 11541, 11542, 11552, 11569, 11590, 11614, 11636, 11654, 11665, 11668, 11663],
   [11649, 11630, 11607, 11584, 11563, 11548, 11540, 11541, 11550, 11567, 11588, 11612, 11635, 11653, 11665, 11669],
   [11664, 11651, 11632, 11609, 11585, 11563, 11547, 11539, 11539, 11548, 11565, 11587, 11611, 11634, 11653, 11666],
   [11671, 11666, 11653, 11634, 11610, 11586, 11564, 11547, 11538, 11538, 11546, 11563, 11585, 11609, 11633, 11653],
   [11667, 11672, 11668, 11656, 11636, 11612, 11587, 11564, 11547, 11537, 11536, 11544, 11560, 11582, 11608, 11633],
   [11654, 11668, 11674, 11671, 11658, 11638, 11614, 11588, 11564, 11546, 11535, 11533, 11541, 11558, 11580, 11606],
   [11632, 11654, 11669, 11676, 11673, 11661, 11641, 11616, 11589, 11565, 11545, 11533, 11531, 11538, 11555, 11578],
   [11604, 11631, 11654, 11671, 11678, 11676, 11664, 11644, 11618, 11591, 11565, 11544, 11531, 11528, 11535, 11552],
   [11575, 11603, 11630, 11655, 11672, 11681, 11679, 11667, 11647, 11621, 11592, 11565, 11543, 11529, 11525, 11532],
   [11548, 11572, 11601, 11630, 11655, 11674, 11684, 11683, 11671, 11650, 11623, 11593, 11565, 11541, 11526, 11521],
   [11527, 11544, 11569, 11598, 11629, 11656, 11677, 11688, 11687, 11676, 11654, 11626, 11595, 11565, 11539, 11523]]

/-- WT[1] entries 768 to 1023. -/
def squarePiece3 : List (List Int) :=
  [[11517, 11523, 11540, 11565, 11596, 11628, 11657, 11680, 11692, 11692, 11681, 11659, 11629, 11597, 11564, 11537],
   [11519, 11512, 11517, 11534, 11561, 11593, 11628, 11659, 11683, 11696, 11698, 11686, 11664, 11633, 11598, 11564],
   [11535, 11515, 11506, 11511, 11529, 11556, 11590, 11627, 11660, 11687, 11702, 11704, 11693, 11670, 11637, 11600],
   [11563, 11532, 11509, 11500, 11504, 11522, 11551, 11587, 11626, 11663, 11691, 11709, 11712, 11701, 11677, 11642],
   [11603, 11563, 11528, 11503, 11492, 11495, 11513, 11544, 11583, 11625, 11665, 11697, 11717, 11721, 11710, 11685],
   [11648, 11605, 11562, 11523, 11495, 11482, 11485, 11504, 11536, 11578, 11624, 11668, 11704, 11726, 11733, 11722],
   [11695, 11655, 11608, 11560, 11518, 11486, 11470, 11472, 11491, 11527, 11573, 11623, 11672, 11712, 11739, 11747],
   [11736, 11707, 11664, 11612, 11559, 11510, 11474, 11455, 11456, 11476, 11515, 11566, 11622, 11677, 11723, 11754],
   [11765, 11754, 11723, 11675, 11617, 11556, 11501, 11459, 11436, 11435, 11457, 11499, 11557, 11621, 11684, 11738],
   [11774, 11788, 11777, 11743, 11689, 11623, 11553, 11488, 11438, 11410, 11407, 11431, 11479, 11545, 11620, 11694],
   [11758, 11802, 11820, 11809, 11771, 11708, 11631, 11547, 11470, 11409, 11374, 11368, 11395, 11451, 11528, 11618],
   [11708, 11787, 11842, 11866, 11856, 11810, 11736, 11641, 11539, 11443, 11366, 11319, 11310, 11341, 11408, 11504],
   [11617, 11732, 11832, 11905, 11939, 11928, 11873, 11779, 11657, 11524, 11397, 11294, 11229, 11214, 11251, 11338],
   [11466, 11618, 11774, 11914, 12017, 12068, 12058, 11984, 11853, 11682, 11491, 11305, 11151, 11051, 11023, 11074],
   [11202, 11395, 11629, 11877, 12102, 12274, 12364, 12353, 12235, 12016, 11719, 11377, 11036, 10742, 10542, 10476],
   [10569, 10829, 11240, 11767, 12351, 12918, 13380, 13648, 13634, 13266, 12491, 11284, 9650, 7626, 5278, 2699]]

/-- WT[1] entries 1024 to 1279. -/
def squarePiece4 : List (List Int) :=
  [[0, -2699, -5278, -7626, -9650, -11284, -12491, -13266, -13634, -13648, -13380, -12918, -12351, -11767, -11240, -10829],
   [-10569, -10476, -10542, -10742, -11036, -11377, -11719, -12016, -12235, -12353, -12364, -12274, -12102, -11877, -11629, -11395],
   [-11202, -11074, -11023, -11051, -11151, -11305, -11491, -11682, -11853, -11984, -12058, -12068, -12017, -11914, -11774, -11618],
   [-11466, -11338, -11251, -11214, -11229, -11294, -11397, -11524, -11657, -11779, -11873, -11928, -11939, -11905, -11832, -11732],
   [-11617, -11504, -11408, -11341, -11310, -11319, -11366, -11443, -11539, -11641, -11736, -11810, -11856, -11866, -11842, -11787],
   [-11708, -11618, -11528, -11451, -11395, -11368, -11374, -11409, -11470, -11547, -11631, -11708, -11771, -11809, -11820, -11802],
   [-11758, -11694, -11620, -11545, -11479, -11431, -11407, -11410, -11438, -11488, -11553, -11623, -11689, -11743, -11777, -11788],
   [-11774, -11738, -11684, -11621, -11557, -11499, -11457, -11435, -11436, -11459, -11501, -11556, -11617, -11675, -11723, -11754],
   [-11765, -11754, -11723, -11677, -11622, -11566, -11515, -11476, -11456, -11455, -11474, -11510, -11559, -11612, -11664, -11707],
   [-11736, -11747, -11739, -11712, -11672, -11623, -11573, -11527, -11491, -11472, -11470, -11486, -11518, -11560, -11608, -11655],
   [-11695, -11722, -11733, -11726, -11704, -11668, -11624, -11578, -11536, -11504, -11485, -11482, -11495, -11523, -11562, -11605],
   [-11648, -11685, -11710, -11721, -11717, -11697, -11665, -11625, -11583, -11544, -11513, -11495, -11492, -11503, -11528, -11563],
   [-11603, -11642, -11677, -11701, -11712, -11709, -11691, -11663, -11626, -11587, -11551, -11522, -11504, -11500, -11509, -11532],
   [-11563, -11600, -11637, -11670, -11693, -11704, -11702, -11687, -11660, -11627, -11590, -11556, -11529, -11511, -11506, -11515],
   [-11535, -11564, -11598, -11633, -11664, -11686, -11698, -11696, -11683, -11659, -11628, -11593, -11561, -11534, -11517, -11512],
   [-11519, -11537, -11564, -11597, -11629, -11659, -11681, -11692, -11692, -11680, -11657, -11628, -11596, -11565, -11540, -11523]]

/-- WT[1] entries 1280 to 1535. -/
def squarePiece5 : List (List Int) :=
  [[-11517, -11523, -11539, -11565, -11595, -11626, -11654, -11676, -11687, -11688, -11677, -11656, -11629, -11598, -11569, -11544],
   [-11527, -11521, -11526, -11541, -11565, -11593, -11623, -11650, -11671, -11683, -11684, -11674, -11655, -11630, -11601, -11572],
   [-11548, -11532, -11525, -11529, -11543, -11565, -11592, -11621, -11647, -11667, -11679, -11681, -11672, -11655, -11630, -11603],
   [-11575, -11552, -11535, -11528, -11531, -11544, -11565, -11591, -11618, -11644, -11664, -11676, -11678, -11671, -11654, -11631],
   [-11604, -11578, -11555, -11538, -11531, -11533, -11545, -11565, -11589, -11616, -11641, -11661, -11673, -11676, -11669, -11654],
   [-11632, -11606, -11580, -11558, -11541, -11533, -11535, -11546, -11564, -11588, -11614, -11638, -11658, -11671, -11674, -11668],
   [-11654, -11633, -11608, -11582, -11560, -11544, -11536, -11537, -11547, -11564, -11587, -11612, -11636, -11656, -11668, -11672],
   [-11667, -11653, -11633, -11609, -11585, -11563, -11546, -11538, -11538, -11547, -11564, -11586, -11610, -11634, -11653, -11666],
   [-11671, -11666, -11653, -11634, -11611, -11587, -11565, -11548, -11539, -11539, -11547, -11563, -11585, -11609, -11632, -11651],
   [-11664, -11669, -11665, -11653, -11635, -11612, -11588, -11567, -11550, -11541, -11540, -11548, -11563, -11584, -11607, -11630],
   [-11649, -11663, -11668, -11665, -11654, -11636, -11614, -11590, -11569, -11552, -11542, -11541, -11548, -11562, -11582, -11605],
   [-11628, -11648, -11661, -11667, -11665, -11654, -11637, -11615, -11592, -11570, -11553, -11543, -11541, -11548, -11562, -11581],
   [-11604, -11626, -11646, -11660, -11666, -11664, -11654, -11638, -11616, -11593, -11572, -11555, -11544, -11542, -11548, -11561],
   [-11580, -11602, -11625, -11645, -11659, -11666, -11664, -11655, -11639, -11618, -11595, -11574, -11556, -11545, -11542, -11547],
   [-11560, -11579, -11601, -11623, -11643, -11658, -11665, -11664, -11655, -11640, -11619, -11596, -11575, -11557, -11546, -11542],
   [-11547, -11559, -11578, -11599, -11622, -11642, -11657, -11665, -11664, -11656, -11641, -11620, -11598, -11576, -11558, -11547]]

/-- WT[1] entries 1536 to 1791. -/
def squarePiece6 : List (List Int) :=
  [[-11542, -11547, -11558, -11576, -11598, -11620, -11641, -11656, -11664, -11665, -11657, -11642, -11622, -11599, -11578, -11559],
   [-11547, -11542, -11546, -11557, -11575, -11596, -11619, -11640, -11655, -11664, -11665, -11658, -11643, -11623, -11601, -11579],
   [-11560, -11547, -11542, -11545, -11556, -11574, -11595, -11618, -11639, -11655, -11664, -11666, -11659, -11645, -11625, -11602],
   [-11580, -11561, -11548, -11542, -11544, -11555, -11572, -11593, -11616, -11638, -11654, -11664, -11666, -11660, -11646, -11626],
   [-11604, -11581, -11562, -11548, -11541, -11543, -11553, -11570, -11592, -11615, -11637, -11654, -11665, -11667, -11661, -11648],
   [-11628, -11605, -11582, -11562, -11548, -11541, -11542, -11552, -11569, -11590, -11614, -11636, -11654, -11665, -11668, -11663],
   [-11649, -11630, -11607, -11584, -11563, -11548, -11540, -11541, -11550, -11567, -11588, -11612, -11635, -11653, -11665, -11669],
   [-11664, -11651, -11632, -11609, -11585, -11563, -11547, -11539, -11539, -11548, -11565, -11587, -11611, -11634, -11653, -11666],
   [-11671, -11666, -11653, -11634, -11610, -11586, -11564, -11547, -11538, -11538, -11546, -11563, -11585, -11609, -11633, -11653],
   [-11667, -11672, -11668, -11656, -11636, -11612, -11587, -11564, -11547, -11537, -11536, -11544, -11560, -11582, -11608, -11633],
   [-11654, -11668, -11674, -11671, -11658, -11638, -11614, -11588, -11564, -11546, -11535, -11533, -11541, -11558, -11580, -11606],
   [-11632, -11654, -11669, -11676, -11673, -11661, -11641, -11616, -11589, -11565, -11545, -11533, -11531, -11538, -11555, -11578],
   [-11604, -11631, -11654, -11671, -11678, -11676, -11664, -11644, -11618, -11591, -11565, -11544, -11531, -11528, -11535, -11552],
   [-11575, -11603, -11630, -11655, -11672, -11681, -11679, -11667, -11647, -11621, -11592, -11565, -11543, -11529, -11525, -11532],
   [-11548, -11572, -11601, -11630, -11655, -11674, -11684, -11683, -11671, -11650, -11623, -11593, -11565, -11541, -11526, -11521],
   [-11527, -11544, -11569, -11598, -11629, -11656, -11677, -11688, -11687, -11676, -11654, -11626, -11595, -11565, -11539, -11523]]

/-- WT[1] entries 1792 to 2047. -/
def squarePiece7 : List (List Int) :=
  [[-11517, -11523, -11540, -11565, -11596, -11628, -11657, -11680, -11692, -11692, -11681, -11659, -11629, -11597, -11564, -11537],
   [-11519, -11512, -11517, -11534, -11561, -11593, -11628, -11659, -11683, -11696, -11698, -11686, -11664, -11633, -11598, -11564],
   [-11535, -11515, -11506, -11511, -11529, -11556, -11590, -11627, -11660, -11687, -11702, -11704, -11693, -11670, -11637, -11600],
   [-11563, -11532, -11509, -11500, -11504, -11522, -11551, -11587, -11626, -11663, -11691, -11709, -11712, -11701, -11677, -11642],
   [-11603, -11563, -11528, -11503, -11492, -11495, -11513, -11544, -11583, -11625, -11665, -11697, -11717, -11721, -11710, -11685],
   [-11648, -11605, -11562, -11523, -11495, -11482, -11485, -11504, -11536, -11578, -11624, -11668, -11704, -11726, -11733, -11722],
   [-11695, -11655, -11608, -11560, -11518, -11486, -11470, -11472, -11491, -11527, -11573, -11623, -11672, -11712, -11739, -11747],
   [-11736, -11707, -11664, -11612, -11559, -11510, -11474, -11455, -11456, -11476, -11515, -11566, -11622, -11677, -11723, -11754],
   [-11765, -11754, -11723, -11675, -11617, -11556, -11501, -11459, -11436, -11435, -11457, -11499, -11557, -11621, -11684, -11738],
   [-11774, -11788, -11777, -11743, -11689, -11623, -11553, -11488, -11438, -11410, -11407, -11431, -11479, -11545, -11620, -11694],
   [-11758, -11802, -11820, -11809, -11771, -11708, -11631, -11547, -11470, -11409, -11374, -11368, -11395, -11451, -11528, -11618],
   [-11708, -11787, -11842, -11866, -11856, -11810, -11736, -11641, -11539, -11443, -11366, -11319, -11310, -11341, -11408, -11504],
   [-11617, -11732, -11832, -11905, -11939, -11928, -11873, -11779, -11657, -11524, -11397, -11294, -11229, -11214, -11251, -11338],
   [-11466, -11618, -11774, -11914, -12017, -12068, -12058, -11984, -11853, -11682, -11491, -11305, -11151, -11051, -11023, -11074],
   [-11202, -11395, -11629, -11877, -12102, -12274, -12364, -12353, -12235, -12016, -11719, -11377, -11036, -10742, -10542, -10476],
   [-10569, -10829, -11240, -11767, -12351, -12918, -13380, -13648, -13634, -13266, -12491, -11284, -9650, -7626, -5278, -2699]]

/-- WT[1], piece by piece; the last piece is the guard entry, equal to entry 0 (rule R152). -/
def squareTable : List (List (List Int)) :=
  [squarePiece0, squarePiece1, squarePiece2, squarePiece3, squarePiece4, squarePiece5, squarePiece6, squarePiece7, [[0]]]

end Sys2Proof.Machine
end

