-- ==== Sys2Proof/Machine/WaveTriangle.lean ====
section
/-! DEFINITION. The triangle table WT[2], entries 0..2048, as listed in 41_wavetable_rom.md section 4 (rules R150 to R160):
rows of 16 entries, sixteen rows (256 entries) a piece, and the guard entry 2048 as the last piece. -/

namespace Sys2Proof.Machine

/-- WT[2] entries 0 to 255. -/
def trianglePiece0 : List (List Int) :=
  [[0, 38, 78, 117, 156, 195, 234, 274, 313, 352, 392, 431, 470, 510, 549, 588],
   [627, 666, 705, 744, 783, 822, 861, 900, 940, 979, 1019, 1058, 1097, 1137, 1176, 1215],
   [1254, 1293, 1332, 1371, 1410, 1449, 1488, 1527, 1567, 1606, 1645, 1685, 1724, 1764, 1803, 1842],
   [1881, 1920, 1959, 1998, 2037, 2076, 2115, 2154, 2194, 2233, 2272, 2312, 2351, 2390, 2430, 2469],
   [2508, 2547, 2587, 2626, 2665, 2703, 2742, 2782, 2821, 2860, 2899, 2938, 2978, 3017, 3057, 3096],
   [3135, 3175, 3214, 3253, 3292, 3331, 3370, 3409, 3448, 3487, 3526, 3565, 3605, 3644, 3683, 3723],
   [3762, 3802, 3841, 3880, 3919, 3958, 3997, 4036, 4075, 4114, 4153, 4192, 4232, 4271, 4310, 4350],
   [4389, 4428, 4468, 4507, 4546, 4585, 4624, 4663, 4702, 4741, 4780, 4819, 4859, 4898, 4937, 4976],
   [5016, 5055, 5095, 5134, 5173, 5212, 5252, 5291, 5330, 5369, 5407, 5447, 5486, 5525, 5564, 5603],
   [5643, 5682, 5722, 5761, 5800, 5840, 5879, 5918, 5957, 5996, 6035, 6074, 6113, 6152, 6191, 6230],
   [6270, 6309, 6348, 6388, 6427, 6467, 6506, 6545, 6584, 6623, 6662, 6701, 6740, 6779, 6818, 6857],
   [6896, 6936, 6975, 7015, 7054, 7093, 7133, 7172, 7211, 7250, 7289, 7328, 7367, 7406, 7445, 7484],
   [7523, 7563, 7602, 7641, 7681, 7720, 7760, 7799, 7838, 7877, 7917, 7956, 7995, 8034, 8072, 8111],
   [8151, 8190, 8229, 8268, 8308, 8347, 8386, 8426, 8465, 8505, 8544, 8583, 8622, 8661, 8700, 8739],
   [8778, 8817, 8856, 8895, 8934, 8974, 9013, 9053, 9092, 9132, 9171, 9210, 9249, 9288, 9327, 9366],
   [9405, 9444, 9483, 9522, 9561, 9601, 9640, 9679, 9719, 9758, 9798, 9837, 9876, 9915, 9954, 9993]]

/-- WT[2] entries 256 to 511. -/
def trianglePiece1 : List (List Int) :=
  [[10032, 10071, 10110, 10149, 10188, 10227, 10267, 10306, 10346, 10385, 10425, 10464, 10503, 10543, 10582, 10621],
   [10660, 10699, 10737, 10776, 10815, 10854, 10894, 10933, 10972, 11012, 11051, 11091, 11130, 11170, 11209, 11248],
   [11287, 11326, 11365, 11404, 11443, 11482, 11521, 11560, 11599, 11639, 11678, 11718, 11757, 11797, 11836, 11875],
   [11914, 11953, 11992, 12031, 12070, 12109, 12148, 12187, 12226, 12265, 12305, 12344, 12384, 12423, 12463, 12502],
   [12542, 12581, 12620, 12659, 12697, 12736, 12775, 12814, 12853, 12892, 12932, 12971, 13011, 13050, 13090, 13129],
   [13169, 13208, 13247, 13286, 13325, 13364, 13402, 13441, 13480, 13519, 13558, 13598, 13637, 13677, 13716, 13756],
   [13795, 13835, 13874, 13913, 13952, 13991, 14030, 14069, 14107, 14146, 14185, 14224, 14264, 14303, 14343, 14383],
   [14422, 14462, 14501, 14541, 14580, 14619, 14657, 14696, 14735, 14774, 14812, 14851, 14891, 14930, 14969, 15009],
   [15049, 15088, 15128, 15168, 15207, 15246, 15285, 15324, 15362, 15401, 15440, 15478, 15517, 15557, 15596, 15635],
   [15675, 15715, 15755, 15795, 15834, 15873, 15913, 15951, 15990, 16029, 16067, 16106, 16145, 16183, 16223, 16262],
   [16302, 16341, 16381, 16421, 16461, 16501, 16540, 16579, 16618, 16657, 16695, 16734, 16772, 16811, 16849, 16888],
   [16928, 16967, 17007, 17047, 17087, 17127, 17167, 17207, 17246, 17285, 17323, 17361, 17400, 17438, 17476, 17515],
   [17554, 17593, 17633, 17673, 17714, 17754, 17794, 17834, 17874, 17913, 17952, 17990, 18028, 18066, 18104, 18142],
   [18180, 18219, 18259, 18299, 18339, 18380, 18421, 18461, 18502, 18541, 18580, 18619, 18657, 18694, 18732, 18769],
   [18806, 18845, 18883, 18923, 18964, 19005, 19046, 19088, 19130, 19171, 19211, 19250, 19288, 19324, 19360, 19396],
   [19431, 19467, 19505, 19543, 19584, 19627, 19671, 19717, 19763, 19809, 19852, 19893, 19928, 19957, 19979, 19993]]

/-- WT[2] entries 512 to 767. -/
def trianglePiece2 : List (List Int) :=
  [[19997, 19993, 19979, 19957, 19928, 19893, 19852, 19809, 19763, 19717, 19671, 19627, 19584, 19543, 19505, 19467],
   [19431, 19396, 19360, 19324, 19288, 19250, 19211, 19171, 19130, 19088, 19046, 19005, 18964, 18923, 18883, 18845],
   [18806, 18769, 18732, 18694, 18657, 18619, 18580, 18541, 18502, 18461, 18421, 18380, 18339, 18299, 18259, 18219],
   [18180, 18142, 18104, 18066, 18028, 17990, 17952, 17913, 17874, 17834, 17794, 17754, 17714, 17673, 17633, 17593],
   [17554, 17515, 17476, 17438, 17400, 17361, 17323, 17285, 17246, 17207, 17167, 17127, 17087, 17047, 17007, 16967],
   [16928, 16888, 16849, 16811, 16772, 16734, 16695, 16657, 16618, 16579, 16540, 16501, 16461, 16421, 16381, 16341],
   [16302, 16262, 16223, 16183, 16145, 16106, 16067, 16029, 15990, 15951, 15913, 15873, 15834, 15795, 15755, 15715],
   [15675, 15635, 15596, 15557, 15517, 15478, 15440, 15401, 15362, 15324, 15285, 15246, 15207, 15168, 15128, 15088],
   [15049, 15009, 14969, 14930, 14891, 14851, 14812, 14774, 14735, 14696, 14657, 14619, 14580, 14541, 14501, 14462],
   [14422, 14383, 14343, 14303, 14264, 14224, 14185, 14146, 14107, 14069, 14030, 13991, 13952, 13913, 13874, 13835],
   [13795, 13756, 13716, 13677, 13637, 13598, 13558, 13519, 13480, 13441, 13402, 13364, 13325, 13286, 13247, 13208],
   [13169, 13129, 13090, 13050, 13011, 12971, 12932, 12892, 12853, 12814, 12775, 12736, 12697, 12659, 12620, 12581],
   [12542, 12502, 12463, 12423, 12384, 12344, 12305, 12265, 12226, 12187, 12148, 12109, 12070, 12031, 11992, 11953],
   [11914, 11875, 11836, 11797, 11757, 11718, 11678, 11639, 11599, 11560, 11521, 11482, 11443, 11404, 11365, 11326],
   [11287, 11248, 11209, 11170, 11130, 11091, 11051, 11012, 10972, 10933, 10894, 10854, 10815, 10776, 10737, 10699],
   [10660, 10621, 10582, 10543, 10503, 10464, 10425, 10385, 10346, 10306, 10267, 10227, 10188, 10149, 10110, 10071]]

/-- WT[2] entries 768 to 1023. -/
def trianglePiece3 : List (List Int) :=
  [[10032, 9993, 9954, 9915, 9876, 9837, 9798, 9758, 9719, 9679, 9640, 9601, 9561, 9522, 9483, 9444],
   [9405, 9366, 9327, 9288, 9249, 9210, 9171, 9132, 9092, 9053, 9013, 8974, 8934, 8895, 8856, 8817],
   [8778, 8739, 8700, 8661, 8622, 8583, 8544, 8505, 8465, 8426, 8386, 8347, 8308, 8268, 8229, 8190],
   [8151, 8111, 8072, 8034, 7995, 7956, 7917, 7877, 7838, 7799, 7760, 7720, 7681, 7641, 7602, 7563],
   [7523, 7484, 7445, 7406, 7367, 7328, 7289, 7250, 7211, 7172, 7133, 7093, 7054, 7015, 6975, 6936],
   [6896, 6857, 6818, 6779, 6740, 6701, 6662, 6623, 6584, 6545, 6506, 6467, 6427, 6388, 6348, 6309],
   [6270, 6230, 6191, 6152, 6113, 6074, 6035, 5996, 5957, 5918, 5879, 5840, 5800, 5761, 5722, 5682],
   [5643, 5603, 5564, 5525, 5486, 5447, 5407, 5369, 5330, 5291, 5252, 5212, 5173, 5134, 5095, 5055],
   [5016, 4976, 4937, 4898, 4859, 4819, 4780, 4741, 4702, 4663, 4624, 4585, 4546, 4507, 4468, 4428],
   [4389, 4350, 4310, 4271, 4232, 4192, 4153, 4114, 4075, 4036, 3997, 3958, 3919, 3880, 3841, 3802],
   [3762, 3723, 3683, 3644, 3605, 3565, 3526, 3487, 3448, 3409, 3370, 3331, 3292, 3253, 3214, 3175],
   [3135, 3096, 3057, 3017, 2978, 2938, 2899, 2860, 2821, 2782, 2742, 2703, 2665, 2626, 2587, 2547],
   [2508, 2469, 2430, 2390, 2351, 2312, 2272, 2233, 2194, 2154, 2115, 2076, 2037, 1998, 1959, 1920],
   [1881, 1842, 1803, 1764, 1724, 1685, 1645, 1606, 1567, 1527, 1488, 1449, 1410, 1371, 1332, 1293],
   [1254, 1215, 1176, 1137, 1097, 1058, 1019, 979, 940, 900, 861, 822, 783, 744, 705, 666],
   [627, 588, 549, 510, 470, 431, 392, 352, 313, 274, 234, 195, 156, 117, 78, 38]]

/-- WT[2] entries 1024 to 1279. -/
def trianglePiece4 : List (List Int) :=
  [[0, -38, -78, -117, -156, -195, -234, -274, -313, -352, -392, -431, -470, -510, -549, -588],
   [-627, -666, -705, -744, -783, -822, -861, -900, -940, -979, -1019, -1058, -1097, -1137, -1176, -1215],
   [-1254, -1293, -1332, -1371, -1410, -1449, -1488, -1527, -1567, -1606, -1645, -1685, -1724, -1764, -1803, -1842],
   [-1881, -1920, -1959, -1998, -2037, -2076, -2115, -2154, -2194, -2233, -2272, -2312, -2351, -2390, -2430, -2469],
   [-2508, -2547, -2587, -2626, -2665, -2703, -2742, -2782, -2821, -2860, -2899, -2938, -2978, -3017, -3057, -3096],
   [-3135, -3175, -3214, -3253, -3292, -3331, -3370, -3409, -3448, -3487, -3526, -3565, -3605, -3644, -3683, -3723],
   [-3762, -3802, -3841, -3880, -3919, -3958, -3997, -4036, -4075, -4114, -4153, -4192, -4232, -4271, -4310, -4350],
   [-4389, -4428, -4468, -4507, -4546, -4585, -4624, -4663, -4702, -4741, -4780, -4819, -4859, -4898, -4937, -4976],
   [-5016, -5055, -5095, -5134, -5173, -5212, -5252, -5291, -5330, -5369, -5407, -5447, -5486, -5525, -5564, -5603],
   [-5643, -5682, -5722, -5761, -5800, -5840, -5879, -5918, -5957, -5996, -6035, -6074, -6113, -6152, -6191, -6230],
   [-6270, -6309, -6348, -6388, -6427, -6467, -6506, -6545, -6584, -6623, -6662, -6701, -6740, -6779, -6818, -6857],
   [-6896, -6936, -6975, -7015, -7054, -7093, -7133, -7172, -7211, -7250, -7289, -7328, -7367, -7406, -7445, -7484],
   [-7523, -7563, -7602, -7641, -7681, -7720, -7760, -7799, -7838, -7877, -7917, -7956, -7995, -8034, -8072, -8111],
   [-8151, -8190, -8229, -8268, -8308, -8347, -8386, -8426, -8465, -8505, -8544, -8583, -8622, -8661, -8700, -8739],
   [-8778, -8817, -8856, -8895, -8934, -8974, -9013, -9053, -9092, -9132, -9171, -9210, -9249, -9288, -9327, -9366],
   [-9405, -9444, -9483, -9522, -9561, -9601, -9640, -9679, -9719, -9758, -9798, -9837, -9876, -9915, -9954, -9993]]

/-- WT[2] entries 1280 to 1535. -/
def trianglePiece5 : List (List Int) :=
  [[-10032, -10071, -10110, -10149, -10188, -10227, -10267, -10306, -10346, -10385, -10425, -10464, -10503, -10543, -10582, -10621],
   [-10660, -10699, -10737, -10776, -10815, -10854, -10894, -10933, -10972, -11012, -11051, -11091, -11130, -11170, -11209, -11248],
   [-11287, -11326, -11365, -11404, -11443, -11482, -11521, -11560, -11599, -11639, -11678, -11718, -11757, -11797, -11836, -11875],
   [-11914, -11953, -11992, -12031, -12070, -12109, -12148, -12187, -12226, -12265, -12305, -12344, -12384, -12423, -12463, -12502],
   [-12542, -12581, -12620, -12659, -12697, -12736, -12775, -12814, -12853, -12892, -12932, -12971, -13011, -13050, -13090, -13129],
   [-13169, -13208, -13247, -13286, -13325, -13364, -13402, -13441, -13480, -13519, -13558, -13598, -13637, -13677, -13716, -13756],
   [-13795, -13835, -13874, -13913, -13952, -13991, -14030, -14069, -14107, -14146, -14185, -14224, -14264, -14303, -14343, -14383],
   [-14422, -14462, -14501, -14541, -14580, -14619, -14657, -14696, -14735, -14774, -14812, -14851, -14891, -14930, -14969, -15009],
   [-15049, -15088, -15128, -15168, -15207, -15246, -15285, -15324, -15362, -15401, -15440, -15478, -15517, -15557, -15596, -15635],
   [-15675, -15715, -15755, -15795, -15834, -15873, -15913, -15951, -15990, -16029, -16067, -16106, -16145, -16183, -16223, -16262],
   [-16302, -16341, -16381, -16421, -16461, -16501, -16540, -16579, -16618, -16657, -16695, -16734, -16772, -16811, -16849, -16888],
   [-16928, -16967, -17007, -17047, -17087, -17127, -17167, -17207, -17246, -17285, -17323, -17361, -17400, -17438, -17476, -17515],
   [-17554, -17593, -17633, -17673, -17714, -17754, -17794, -17834, -17874, -17913, -17952, -17990, -18028, -18066, -18104, -18142],
   [-18180, -18219, -18259, -18299, -18339, -18380, -18421, -18461, -18502, -18541, -18580, -18619, -18657, -18694, -18732, -18769],
   [-18806, -18845, -18883, -18923, -18964, -19005, -19046, -19088, -19130, -19171, -19211, -19250, -19288, -19324, -19360, -19396],
   [-19431, -19467, -19505, -19543, -19584, -19627, -19671, -19717, -19763, -19809, -19852, -19893, -19928, -19957, -19979, -19993]]

/-- WT[2] entries 1536 to 1791. -/
def trianglePiece6 : List (List Int) :=
  [[-19997, -19993, -19979, -19957, -19928, -19893, -19852, -19809, -19763, -19717, -19671, -19627, -19584, -19543, -19505, -19467],
   [-19431, -19396, -19360, -19324, -19288, -19250, -19211, -19171, -19130, -19088, -19046, -19005, -18964, -18923, -18883, -18845],
   [-18806, -18769, -18732, -18694, -18657, -18619, -18580, -18541, -18502, -18461, -18421, -18380, -18339, -18299, -18259, -18219],
   [-18180, -18142, -18104, -18066, -18028, -17990, -17952, -17913, -17874, -17834, -17794, -17754, -17714, -17673, -17633, -17593],
   [-17554, -17515, -17476, -17438, -17400, -17361, -17323, -17285, -17246, -17207, -17167, -17127, -17087, -17047, -17007, -16967],
   [-16928, -16888, -16849, -16811, -16772, -16734, -16695, -16657, -16618, -16579, -16540, -16501, -16461, -16421, -16381, -16341],
   [-16302, -16262, -16223, -16183, -16145, -16106, -16067, -16029, -15990, -15951, -15913, -15873, -15834, -15795, -15755, -15715],
   [-15675, -15635, -15596, -15557, -15517, -15478, -15440, -15401, -15362, -15324, -15285, -15246, -15207, -15168, -15128, -15088],
   [-15049, -15009, -14969, -14930, -14891, -14851, -14812, -14774, -14735, -14696, -14657, -14619, -14580, -14541, -14501, -14462],
   [-14422, -14383, -14343, -14303, -14264, -14224, -14185, -14146, -14107, -14069, -14030, -13991, -13952, -13913, -13874, -13835],
   [-13795, -13756, -13716, -13677, -13637, -13598, -13558, -13519, -13480, -13441, -13402, -13364, -13325, -13286, -13247, -13208],
   [-13169, -13129, -13090, -13050, -13011, -12971, -12932, -12892, -12853, -12814, -12775, -12736, -12697, -12659, -12620, -12581],
   [-12542, -12502, -12463, -12423, -12384, -12344, -12305, -12265, -12226, -12187, -12148, -12109, -12070, -12031, -11992, -11953],
   [-11914, -11875, -11836, -11797, -11757, -11718, -11678, -11639, -11599, -11560, -11521, -11482, -11443, -11404, -11365, -11326],
   [-11287, -11248, -11209, -11170, -11130, -11091, -11051, -11012, -10972, -10933, -10894, -10854, -10815, -10776, -10737, -10699],
   [-10660, -10621, -10582, -10543, -10503, -10464, -10425, -10385, -10346, -10306, -10267, -10227, -10188, -10149, -10110, -10071]]

/-- WT[2] entries 1792 to 2047. -/
def trianglePiece7 : List (List Int) :=
  [[-10032, -9993, -9954, -9915, -9876, -9837, -9798, -9758, -9719, -9679, -9640, -9601, -9561, -9522, -9483, -9444],
   [-9405, -9366, -9327, -9288, -9249, -9210, -9171, -9132, -9092, -9053, -9013, -8974, -8934, -8895, -8856, -8817],
   [-8778, -8739, -8700, -8661, -8622, -8583, -8544, -8505, -8465, -8426, -8386, -8347, -8308, -8268, -8229, -8190],
   [-8151, -8111, -8072, -8034, -7995, -7956, -7917, -7877, -7838, -7799, -7760, -7720, -7681, -7641, -7602, -7563],
   [-7523, -7484, -7445, -7406, -7367, -7328, -7289, -7250, -7211, -7172, -7133, -7093, -7054, -7015, -6975, -6936],
   [-6896, -6857, -6818, -6779, -6740, -6701, -6662, -6623, -6584, -6545, -6506, -6467, -6427, -6388, -6348, -6309],
   [-6270, -6230, -6191, -6152, -6113, -6074, -6035, -5996, -5957, -5918, -5879, -5840, -5800, -5761, -5722, -5682],
   [-5643, -5603, -5564, -5525, -5486, -5447, -5407, -5369, -5330, -5291, -5252, -5212, -5173, -5134, -5095, -5055],
   [-5016, -4976, -4937, -4898, -4859, -4819, -4780, -4741, -4702, -4663, -4624, -4585, -4546, -4507, -4468, -4428],
   [-4389, -4350, -4310, -4271, -4232, -4192, -4153, -4114, -4075, -4036, -3997, -3958, -3919, -3880, -3841, -3802],
   [-3762, -3723, -3683, -3644, -3605, -3565, -3526, -3487, -3448, -3409, -3370, -3331, -3292, -3253, -3214, -3175],
   [-3135, -3096, -3057, -3017, -2978, -2938, -2899, -2860, -2821, -2782, -2742, -2703, -2665, -2626, -2587, -2547],
   [-2508, -2469, -2430, -2390, -2351, -2312, -2272, -2233, -2194, -2154, -2115, -2076, -2037, -1998, -1959, -1920],
   [-1881, -1842, -1803, -1764, -1724, -1685, -1645, -1606, -1567, -1527, -1488, -1449, -1410, -1371, -1332, -1293],
   [-1254, -1215, -1176, -1137, -1097, -1058, -1019, -979, -940, -900, -861, -822, -783, -744, -705, -666],
   [-627, -588, -549, -510, -470, -431, -392, -352, -313, -274, -234, -195, -156, -117, -78, -38]]

/-- WT[2], piece by piece; the last piece is the guard entry, equal to entry 0 (rule R152). -/
def triangleTable : List (List (List Int)) :=
  [trianglePiece0, trianglePiece1, trianglePiece2, trianglePiece3, trianglePiece4, trianglePiece5, trianglePiece6, trianglePiece7, [[0]]]

end Sys2Proof.Machine
end

