-- ==== Sys2Proof/Machine/Rom.lean ====
section
/-! DEFINITION. The three ROMs (20_memory.md rules R80 to R83, R86), each read by entry index. Their contents depend on the
parameters only. -/

namespace Sys2Proof.Machine

/-- The listing of `WT[s]` (41_wavetable_rom.md section 4). -/
def waveTable : Wave → List (List (List Int))
  | .sine => sineTable
  | .square => squareTable
  | .triangle => triangleTable
  | .ramp => rampTable

/-- `MemRead(WT[s], i)` for `i` in 0..2048, an s16 value. (An index above 2048, which no command and no oscillator
reaches, answers 0.) -/
def memReadWt (s : Wave) (i : Nat) : Int :=
  (((waveTable s).getD (i / 256) []).getD (i / 16 % 16) []).getD (i % 16) 0

/-- `r - 1/2 <= frequency(n) * 2^32 / sampleRate`, with `frequency(n) = 440 * 2^((n-69)/12)`, as a comparison of
integers: both sides doubled, raised to the power 12 and cleared of denominators (log 8). -/
def pitchReaches (sampleRate n r : Nat) : Bool :=
  decide ((2 * r - 1) ^ 12 * sampleRate ^ 12 * 2 ^ 69 ≤ (880 * 2 ^ 32) ^ 12 * 2 ^ n)

/-- `tune(n) = round_ha(frequency(n) * 2^32 / SAMPLE_RATE)` (42_pitch_table.md rules R180, R181): the largest `r` of 32
bits with `r - 1/2` at most the exact real. At a sample rate below 12544, which rule R10 of 00_scope.md excludes, an entry
that does not fit saturates at 2^32 - 1 (DESIGN CHOICE, log 19). -/
def tuneOf (sampleRate n : Nat) : Nat := largestFrom (pitchReaches sampleRate n) 32 0

/-- `MemRead(PITCH, n)` (42_pitch_table.md rule R183). -/
def memReadPitch (c : Config) (n : Nat) : Word := .ofNat 32 (tuneOf c.sampleRate n)

/-- `r <= t_min * (t_max / t_min) ^ (i / maxIndex)`, with `t_min = sampleRate / 1000` and `t_max = 10 * sampleRate`, as a
comparison of integers: both sides raised to the power `maxIndex` and cleared of denominators (log 9). -/
def durationReaches (sampleRate maxIndex i r : Nat) : Bool :=
  decide ((1000 * r) ^ maxIndex ≤ sampleRate ^ maxIndex * 10 ^ (4 * i))

/-- `max(1, trunc(t_min * (t_max / t_min) ^ (i / ENV_MAX_INDEX)))` (44_envelope.md rule R220). A duration that does not
fit a u32, which rule R221 leaves possible from SAMPLE_RATE = 429496729 on, saturates at 2^32 - 1 (DESIGN CHOICE, log 19). -/
def durationOf (c : Config) (i : Nat) : Nat :=
  max 1 (largestFrom (durationReaches c.sampleRate c.envMaxIndex i) 32 0)

/-- `MemRead(ENVLUT, i)` (44_envelope.md rule R223). -/
def memReadEnvlut (c : Config) (i : Nat) : Word := .ofNat 32 (durationOf c i)

/-- `duration_samples(idx)` (44_envelope.md rule R222), as a number. -/
def durationSamples (c : Config) (idx : Index14) : Nat := (memReadEnvlut c idx.toNat).toNat

end Sys2Proof.Machine
end

