-- ==== Sys2Proof/Machine/Envelope.lean ====
section
/-! DEFINITION. The envelope state machine adsr_envelope_fsm (44_envelope.md rules R225 to R239), for one layer envelope `e`
with its patch descriptor `p`. -/

namespace Sys2Proof.Machine

/-- `MkRate(num, d) = max(ENV_RATE_MIN, fdiv(num, d))` (rule R227). -/
def mkRate (c : Config) (num d : Nat) : Word := .ofNat 32 (max c.envRateMin.val (num / d))

/-- `EnvNoteOn` (rule R228): the level is kept. -/
def LayerEnv.noteOn (c : Config) (p : PatchLayer) (e : LayerEnv) : LayerEnv :=
  { e with state := .attack, rate := mkRate c (envMax - e.level.toNat) (durationSamples c p.attack) }

/-- `EnvNoteOff` (rule R229): the level is kept. -/
def LayerEnv.noteOff (c : Config) (p : PatchLayer) (e : LayerEnv) : LayerEnv :=
  { e with state := .release, rate := mkRate c e.level.toNat (durationSamples c p.release) }

/-- ATTACK tick (rule R231). -/
def LayerEnv.tickAttack (c : Config) (p : PatchLayer) (n : Nat) (e : LayerEnv) : LayerEnv :=
  if e.level.toNat + n * e.rate.toNat ≥ envMax then
    { state := .decay
      level := .ofNat 32 envMax
      rate := mkRate c (envMax - p.sustain.toNat) (durationSamples c p.decay) }
  else
    { e with level := .ofNat 32 (e.level.toNat + n * e.rate.toNat) }

/-- DECAY tick (rule R232): the sustain register as it stands at this tick. -/
def LayerEnv.tickDecay (p : PatchLayer) (n : Nat) (e : LayerEnv) : LayerEnv :=
  if n * e.rate.toNat > e.level.toNat ∨ e.level.toNat - n * e.rate.toNat ≤ p.sustain.toNat then
    { e with state := .sustain, level := p.sustain }
  else
    { e with level := .ofNat 32 (e.level.toNat - n * e.rate.toNat) }

/-- RELEASE tick (rule R234): the rate is left as it was. -/
def LayerEnv.tickRelease (n : Nat) (e : LayerEnv) : LayerEnv :=
  if n * e.rate.toNat ≥ e.level.toNat then
    { e with state := .idle, level := 0 }
  else
    { e with level := .ofNat 32 (e.level.toNat - n * e.rate.toNat) }

/-- `EnvTick(v, l, n)` (rule R230): dispatch on the state; SUSTAIN and IDLE write nothing (rule R233). -/
def LayerEnv.tick (c : Config) (p : PatchLayer) (n : Nat) (e : LayerEnv) : LayerEnv :=
  match e.state with
  | .idle => e
  | .attack => e.tickAttack c p n
  | .decay => e.tickDecay p n
  | .sustain => e
  | .release => e.tickRelease n

/-- `f` applied to the envelope of every ACTIVE layer of a voice, never to an inactive one (rule R235, 10_state.md rules
R43, R44). Each application touches its own envelope only, so the order of the layers does not matter (log 14). -/
def Voice.onActive (patch : Four PatchLayer) (f : PatchLayer → LayerEnv → LayerEnv) (v : Voice) : Voice :=
  { v with env := Four.ofFn fun l => if (patch.get l).active then f (patch.get l) (v.env.get l) else v.env.get l }

/-- `EnvTick(v, l, n)` for every active layer of every voice (rule R235). -/
def State.tickEnvelopes (s : State) (n : Nat) : State :=
  { s with voices := Eight.ofFn fun v => (s.voices.get v).onActive s.patch (LayerEnv.tick s.cfg · n) }

end Sys2Proof.Machine
end

