-- ==== Sys2Proof/Machine/Oscillator.lean ====
section
/-! DEFINITION. The phase accumulator and the linear interpolator (43_oscillator.md). -/

namespace Sys2Proof.Machine

/-- `PhaseAdvance(v)` (rule R201): `phase <- (phase + tune) mod 2^32`. -/
def Voice.phaseAdvance (v : Voice) : Voice := { v with phase := v.phase + v.tune }

/-- `index = p[31:21]` (rule R202). -/
def phaseIndex (p : Word) : Nat := p.toNat / 2 ^ 21

/-- `frac = p[20:0]` (rule R202). -/
def phaseFrac (p : Word) : Nat := p.toNat % 2 ^ 21

/-- `y0 + (((y1 - y0) * frac) >>a 21)` (rule R203), the product exact (rule R204). -/
def interpolate (y0 y1 : Int) (frac : Nat) : Int := y0 + asr ((y1 - y0) * frac) 21

/-- `OscSample(p, s)` (rule R203). -/
def oscSample (p : Word) (s : Wave) : Int :=
  interpolate (memReadWt s (phaseIndex p)) (memReadWt s (phaseIndex p + 1)) (phaseFrac p)

end Sys2Proof.Machine
end

