-- ==== Sys2Proof/Machine/Mixer.lean ====
section
/-! DEFINITION. The sample mixer (47_mixer.md rules R330 to R334): one sample, and one block. -/

namespace Sys2Proof.Machine

/-- The layer's sample scaled by its envelope level and its mix amount (rule R330): `e = (s * level) >>a 32`, then
`tdiv(e * mix, 127)`. -/
def scaleLayer (s : Int) (level : Word) (mix : BitVec 7) : Int := tdiv (asr (s * level.toNat) 32 * mix.toNat) 127

/-- `LayerContribution(v, l)` of an active layer (rule R330); an inactive layer is not in the sum (rule R331). -/
def State.contribution (s : State) (v : Fin 8) (l : Fin 4) : Int :=
  match (s.patch.get l).shape with
  | some w => scaleLayer (oscSample (s.voices.get v).phase w) (s.env v l).level (s.patch.get l).mix
  | none => 0

/-- The exact sum over every voice and every active layer (rule R331). -/
def State.mixSum (s : State) : Int := Eight.sum fun v => Four.sum fun l => s.contribution v l

/-- The sum scaled by the master gain, `tdiv(acc * MASTER_GAIN, 127)` (rule R331). -/
def scaleGain (acc : Int) (gain : BitVec 7) : Int := tdiv (acc * gain.toNat) 127

/-- `MixSample()` (rule R331), before saturation. -/
def State.mixSample (s : State) : Int := scaleGain s.mixSum s.masterGain

/-- The output pair `(sat16(y), sat16(y))` (rule R333). -/
def outputPair (y : Int) : StereoPair := { left := s16 (sat16 y), right := s16 (sat16 y) }

/-- `PhaseAdvance(v)` for every voice, whatever the state of its layers (rule R332, 43_oscillator.md rule R201). -/
def State.advancePhases (s : State) : State :=
  { s with voices := Eight.ofFn fun v => (s.voices.get v).phaseAdvance }

/-- `RUN_PEAK <- max(RUN_PEAK, abs(y))` (rule R332). -/
def State.meter (s : State) (y : Int) : State := { s with runPeak := .ofNat 32 (max s.runPeak.toNat y.natAbs) }

/-- `SAMPLE_COUNTER <- (SAMPLE_COUNTER + 1) mod 2^64` (rule R332, 10_state.md rule R61). -/
def State.countSample (s : State) : State := { s with sampleCounter := s.sampleCounter + 1 }

/-- The per-sample envelope tick of PER_SAMPLE mode (rule R332; 00_scope.md rule R14). -/
def State.tickPerSample (s : State) : State :=
  match s.cfg.envTickMode with
  | .perSample => s.tickEnvelopes 1
  | .perBlock => s

/-- The batch envelope tick of PER_BLOCK mode after a block of `n` samples (rule R334). -/
def State.tickPerBlock (s : State) (n : Nat) : State :=
  match s.cfg.envTickMode with
  | .perSample => s
  | .perBlock => s.tickEnvelopes n

/-- The state after `SampleTick()` (rule R332): the meter, the phases, the envelopes, the counter, in this order. -/
def State.sampleTick (s : State) : State := (s.meter s.mixSample).advancePhases.tickPerSample.countSample

/-- The output of `SampleTick()` (rules R332, R333). -/
def State.sampleOut (s : State) : StereoPair := outputPair s.mixSample

/-- The state after `n` sample ticks. -/
def State.sampleTicks : Nat → State → State
  | 0, s => s
  | n + 1, s => State.sampleTicks n s.sampleTick

/-- The outputs of `n` sample ticks, in order. -/
def State.sampleOuts : Nat → State → List StereoPair
  | 0, _ => []
  | n + 1, s => s.sampleOut :: State.sampleOuts n s.sampleTick

/-- The start of a block: `RUN_PEAK <- 0` (rule R334). -/
def State.startBlock (s : State) : State := { s with runPeak := 0 }

/-- The end of a block: `PEAK <- RUN_PEAK` (rule R334). -/
def State.latchPeak (s : State) : State := { s with peak := s.runPeak }

/-- The state after `Block(n)` (rule R334). -/
def State.blockState (s : State) (n : Nat) : State := ((State.sampleTicks n s.startBlock).tickPerBlock n).latchPeak

/-- The samples of `Block(n)` (rule R334). -/
def State.blockOut (s : State) (n : Nat) : List StereoPair := State.sampleOuts n s.startBlock

end Sys2Proof.Machine
end

