-- ==== Sys2Proof/Machine/Operands.lean ====
section
/-! DEFINITION. The operand forms of the commands: the ranges that make an operand legal (30_encoding.md rule R124) and the
maps from an operand to the value it writes. Every operand is an unsigned field (rule R120); no command names a register. -/

namespace Sys2Proof.Machine

/-- `NOTE <= 127`. -/
def noteLegal (note : BitVec 8) : Bool := decide (note.toNat ≤ 127)

/-- `VALUE <= ENV_MAX_INDEX`, and `INDEX <= ENV_MAX_INDEX` for READ_ENVLUT. -/
def indexLegal (c : Config) (value : Index14) : Bool := decide (value.toNat ≤ c.envMaxIndex)

/-- `VALUE <= 127`: sustain, gain and mix. -/
def sevenBitLegal (value : Index14) : Bool := decide (value.toNat ≤ 127)

/-- `VALUE <= 4`: a shape code. -/
def shapeLegal (value : Index14) : Bool := decide (value.toNat ≤ 4)

/-- `COUNT >= 1`. -/
def countLegal (count : BitVec 16) : Bool := decide (1 ≤ count.toNat)

/-- `INDEX <= 2048`: a wavetable entry. -/
def wtIndexLegal (index : BitVec 12) : Bool := decide (index.toNat ≤ 2048)

/-- The shape a legal shape code selects (10_state.md rule R34): 4 is INACTIVE. -/
def shapeOfValue (value : Index14) : Option Wave :=
  match value.toNat with
  | 0 => some .sine
  | 1 => some .square
  | 2 => some .triangle
  | 3 => some .ramp
  | _ => none

/-- `SusMap(v) = fdiv(v * ENV_MAX, 127)` (46_parameters.md rule R304). -/
def susMap (v : Nat) : Nat := envMax * v / 127

/-- The sustain level a legal 7-bit value writes (46_parameters.md rules R305, R311). -/
def sustainOfValue (value : Index14) : Word := .ofNat 32 (susMap value.toNat)

/-- The 7-bit register value of a legal 7-bit operand (gain, mix: 46_parameters.md rules R308, R313). -/
def sevenBitOfValue (value : Index14) : BitVec 7 := .ofNat 7 value.toNat

/-- The 7-bit note of a legal NOTE operand (45_voice_allocator.md rule R276). -/
def noteOfOperand (note : BitVec 8) : BitVec 7 := .ofNat 7 note.toNat

end Sys2Proof.Machine
end

