-- ==== Sys2Proof/Machine/Ops.lean ====
section
/-! DEFINITION. The named operations over the whole state that every command is made of: consuming a command, answering a
word, delivering a block, REJECTING a word (the block's only exception, 60_exceptions.md rules R370, R374), and reset. -/

namespace Sys2Proof.Machine

/-- The advance of the command position (10_state.md rule R31). -/
def State.advance (s : State) : State := { s with cp := s.cp + 1 }

/-- `Respond(w)` (00_scope.md rule R22). -/
def State.respond (s : State) (w : Word) : State := { s with respOut := s.respOut ++ [w] }

/-- `EmitSink(block)` (00_scope.md rule R22). -/
def State.emitSink (s : State) (block : List StereoPair) : State := { s with sinkOut := s.sinkOut ++ [block] }

/-- `raise Reject(cause)` for the word `w` (00_scope.md rule R23, 60_exceptions.md rule R374): exactly four writes. There
is no return from it: the next word executes normally (rule R378). -/
def State.reject (s : State) (cause : RejectCause) (w : Word) : State :=
  { s with
    rejectCount := s.rejectCount + 1
    rejectCause := cause
    rejectWord := w
    cp := s.cp + 1 }

/-- A command that executed: its writes, and the advance of CP. -/
def retire (s : State) : Result := .next s.advance

/-- A command rejected for its operands: REJECT_WORD is the command's own word (log 12). -/
def rejectInstr (s : State) (cause : RejectCause) (i : Instr) : Result := .next (s.reject cause (encode i))

/-- The reset input asserted (70_reset_and_hazards.md rules R400, R401): every register at its reset value, the parameters
unaffected; what is left at the port and the level of `sink_ready`, which are the host's, stay (log 13). -/
def State.resetInput (s : State) : State :=
  { State.resetWith s.cfg with port := s.port, sinkReady := s.sinkReady }

/-- `Memory.wf`: the one form of the writable storage (20_memory.md rule R80): LOOKAHEAD holds exactly BLOCK_LEN pairs.
The block has no byte-addressed memory (rule R84). -/
def Memory.wf (s : State) : Bool := decide (s.lookahead.length = s.cfg.blockLen)

/-- `MemWrite(LOOKAHEAD, i, block[i])` for every `i` of the block, and the mark "full" (47_mixer.md rule R336). -/
def State.storeLookahead (s : State) (block : List StereoPair) : State :=
  { s with lookahead := block, lookaheadFull := true }

/-- The lookahead buffer marked empty (47_mixer.md rule R336). The pairs stay as they were: DESIGN CHOICE, since
92_eei_decisions.md D38 leaves the contents after a copy unspecified and unobservable (log 4). -/
def State.emptyLookahead (s : State) : State := { s with lookaheadFull := false }

end Sys2Proof.Machine
end

