-- ==== Sys2Proof/Machine/Fill.lean ====
section
/-! DEFINITION. The two buffer-fill commands (47_mixer.md section 2). -/

namespace Sys2Proof.Machine

/-- `EmitSink(Block(n))`. -/
def State.fillSink (s : State) (n : Nat) : State := (s.blockState n).emitSink (s.blockOut n)

/-- One Block call of BLOCK_LEN samples, its pairs stored in LOOKAHEAD (rule R336). -/
def State.fillAhead (s : State) : State := (s.blockState s.cfg.blockLen).storeLookahead (s.blockOut s.cfg.blockLen)

/-- The stored block emitted, the buffer empty (rule R336). -/
def State.copyLookahead (s : State) : State := (s.emitSink s.lookahead).emptyLookahead

/-- `DROPOUT_COUNT <- (DROPOUT_COUNT + 1) mod 2^32` (rule R337). -/
def State.dropout (s : State) : State := { s with dropoutCount := s.dropoutCount + 1 }

/-- The lookahead state machine (rules R336, R341): the four cases of `sink_ready` and LOOKAHEAD_FULL. -/
def State.pollState (s : State) : State :=
  match s.sinkReady, s.lookaheadFull with
  | true, true => s.copyLookahead
  | true, false => s.fillSink s.cfg.blockLen
  | false, false => s.fillAhead
  | false, true => s.dropout

/-- RENDER (rule R335). -/
def execRender (count : BitVec 16) (s : State) : Result :=
  if countLegal count then retire (s.fillSink count.toNat) else rejectInstr s .zeroCount (.render count)

/-- POLL (rule R336). -/
def execPoll (s : State) : Result := retire s.pollState

end Sys2Proof.Machine
end

