-- ==== Sys2Proof/Machine/Allocator.lean ====
section
/-! DEFINITION. The voice allocator (45_voice_allocator.md): the two selection functions, and the claim and the release of
a voice. -/

namespace Sys2Proof.Machine

/-- `V[v].ts`, as the full 64-bit value (rule R272). -/
def State.tsOf (s : State) (v : Fin 8) : Nat := (s.voices.get v).ts.toNat

/-- The older of the best voice so far and the next in scan order: strict, so that equal timestamps keep the lower index. -/
def State.older (s : State) (best v : Fin 8) : Fin 8 := if s.tsOf v < s.tsOf best then v else best

/-- The voice with the smallest timestamp, the first in scan order among equals (rule R272). -/
def State.oldestVoice (s : State) : Fin 8 := voiceOrder.tail.foldl s.older 0

/-- `find_next()` (rule R272): the first free voice in scan order, else the oldest. -/
def State.findNext (s : State) : Fin 8 :=
  match voiceOrder.find? s.free with
  | some v => v
  | none => s.oldestVoice

/-- One step of the scan of `find_for_note_off(n)` (rule R274). -/
def State.olderHolding (s : State) (note : BitVec 7) (best : Option (Fin 8)) (v : Fin 8) : Option (Fin 8) :=
  if (s.voices.get v).note = note ∧ s.sounding v then
    match best with
    | none => some v
    | some b => some (s.older b v)
  else best

/-- `find_for_note_off(n)` (rule R274): the oldest sounding voice that holds the note, or none. -/
def State.findForNoteOff (s : State) (note : BitVec 7) : Option (Fin 8) :=
  voiceOrder.foldl (s.olderHolding note) none

/-- What NOTE_ON writes in the voice it claims (rules R275, R276; 43_oscillator.md rule R209). -/
def Voice.claim (c : Config) (patch : Four PatchLayer) (counter : Word64) (note : BitVec 7) (v : Voice) : Voice :=
  let written : Voice :=
    { v with
      note := note
      tune := memReadPitch c note.toNat
      ts := counter
      phase := if c.phaseResetOnNoteOn then 0 else v.phase }
  written.onActive patch (LayerEnv.noteOn c)

/-- NOTE_ON on the state: claim the voice `find_next` returns, evaluated before any write (rule R276). -/
def State.claimVoice (s : State) (note : BitVec 7) : State :=
  { s with voices := s.voices.modify s.findNext (Voice.claim s.cfg s.patch s.sampleCounter note) }

/-- EnvNoteOff of a layer that is not IDLE (rule R277; 44_envelope.md rule R229). -/
def LayerEnv.releaseUnlessIdle (c : Config) (p : PatchLayer) (e : LayerEnv) : LayerEnv :=
  if e.state = .idle then e else e.noteOff c p

/-- NOTE_OFF on the state: release every active layer that is not IDLE of the selected voice; no voice, no effect
(rule R277, 60_exceptions.md rule R387). -/
def State.releaseVoice (s : State) (note : BitVec 7) : State :=
  match s.findForNoteOff note with
  | none => s
  | some v => { s with voices := s.voices.modify v (Voice.onActive s.patch (LayerEnv.releaseUnlessIdle s.cfg)) }

end Sys2Proof.Machine
end

