-- ==== Sys2Proof/Machine/Notes.lean ====
section
/-! DEFINITION. The note commands (45_voice_allocator.md section 3). The reserved-zero bits are checked by the decoder. -/

namespace Sys2Proof.Machine

/-- NOTE_ON (rule R276): `VEL` is accepted and ignored. -/
def execNoteOn (note : BitVec 8) (vel : BitVec 7) (s : State) : Result :=
  if noteLegal note then retire (s.claimVoice (noteOfOperand note)) else rejectInstr s .noteRange (.noteOn note vel)

/-- NOTE_OFF (rule R277). -/
def execNoteOff (note : BitVec 8) (s : State) : Result :=
  if noteLegal note then retire (s.releaseVoice (noteOfOperand note)) else rejectInstr s .noteRange (.noteOff note)

end Sys2Proof.Machine
end

