-- ==== Sys2Proof/Machine/Params.lean ====
section
/-! DEFINITION. NOP and the parameter commands (46_parameters.md sections 1 to 3): CTRL_* write the field of all four
layers, LAYER_* of one. The reserved-zero bits and the reserved selectors are checked by the decoder. -/

namespace Sys2Proof.Machine

/-- Every layer descriptor changed by `f` (the ControlChange path: "all layers uniformly"). -/
def State.updateLayers (s : State) (f : PatchLayer → PatchLayer) : State :=
  { s with patch := Four.ofFn fun l => f (s.patch.get l) }

/-- One layer descriptor changed by `f` (the NRPN path). -/
def State.updateLayer (s : State) (l : Fin 4) (f : PatchLayer → PatchLayer) : State :=
  { s with patch := s.patch.modify l f }

/-- A parameter command: with a legal value it writes, with another it is rejected with cause VALUE_RANGE. -/
def writeParam (legal : Bool) (written s : State) (i : Instr) : Result :=
  if legal then retire written else rejectInstr s .valueRange i

/-- NOP (rule R300). -/
def execNop (s : State) : Result := retire s

/-- CTRL_ATTACK (rule R301). -/
def execCtrlAttack (value : Index14) (s : State) : Result :=
  writeParam (indexLegal s.cfg value) (s.updateLayers ({ · with attack := value })) s (.ctrlAttack value)

/-- CTRL_DECAY (rule R302). -/
def execCtrlDecay (value : Index14) (s : State) : Result :=
  writeParam (indexLegal s.cfg value) (s.updateLayers ({ · with decay := value })) s (.ctrlDecay value)

/-- CTRL_SUSTAIN (rule R305). -/
def execCtrlSustain (value : Index14) (s : State) : Result :=
  writeParam (sevenBitLegal value) (s.updateLayers ({ · with sustain := sustainOfValue value })) s (.ctrlSustain value)

/-- CTRL_RELEASE (rule R306). -/
def execCtrlRelease (value : Index14) (s : State) : Result :=
  writeParam (indexLegal s.cfg value) (s.updateLayers ({ · with release := value })) s (.ctrlRelease value)

/-- CTRL_GAIN (rule R308). -/
def execCtrlGain (value : Index14) (s : State) : Result :=
  writeParam (sevenBitLegal value) { s with masterGain := sevenBitOfValue value } s (.ctrlGain value)

/-- LAYER_SHAPE (rule R303). -/
def execLayerShape (layer : Fin 4) (value : Index14) (s : State) : Result :=
  writeParam (shapeLegal value) (s.updateLayer layer ({ · with shape := shapeOfValue value })) s (.layerShape layer value)

/-- LAYER_ATTACK (rule R309). -/
def execLayerAttack (layer : Fin 4) (value : Index14) (s : State) : Result :=
  writeParam (indexLegal s.cfg value) (s.updateLayer layer ({ · with attack := value })) s (.layerAttack layer value)

/-- LAYER_DECAY (rule R310). -/
def execLayerDecay (layer : Fin 4) (value : Index14) (s : State) : Result :=
  writeParam (indexLegal s.cfg value) (s.updateLayer layer ({ · with decay := value })) s (.layerDecay layer value)

/-- LAYER_SUSTAIN (rule R311). -/
def execLayerSustain (layer : Fin 4) (value : Index14) (s : State) : Result :=
  writeParam (sevenBitLegal value) (s.updateLayer layer ({ · with sustain := sustainOfValue value })) s
    (.layerSustain layer value)

/-- LAYER_RELEASE (rule R312). -/
def execLayerRelease (layer : Fin 4) (value : Index14) (s : State) : Result :=
  writeParam (indexLegal s.cfg value) (s.updateLayer layer ({ · with release := value })) s (.layerRelease layer value)

/-- LAYER_MIX (rule R313). -/
def execLayerMix (layer : Fin 4) (value : Index14) (s : State) : Result :=
  writeParam (sevenBitLegal value) (s.updateLayer layer ({ · with mix := sevenBitOfValue value })) s
    (.layerMix layer value)

end Sys2Proof.Machine
end

