-- ==== Sys2Proof/Machine/RegisterMap.lean ====
section
/-! DEFINITION. The read-only register space of READ_REG (10_state.md rules R47, R50 to R53). -/

namespace Sys2Proof.Machine

/-- CONFIG (rule R47). -/
def configWord (c : Config) : Nat :=
  8 + 4 * 2 ^ 8 + c.envIndexBits.width * 2 ^ 12
    + (match c.envTickMode with | .perSample => 0 | .perBlock => 1) * 2 ^ 16
    + (if c.phaseResetOnNoteOn then 1 else 0) * 2 ^ 17
    + c.envRateMin.val * 2 ^ 18

/-- The global registers, by address (rule R50). -/
def globalValue (s : State) (a : Nat) : Nat :=
  match a with
  | 0x000 => s.masterGain.toNat
  | 0x001 => s.peak.toNat
  | 0x002 => s.dropoutCount.toNat
  | 0x003 => s.rejectCount.toNat
  | 0x004 => fullBit s
  | 0x005 => s.sampleCounter.toNat % 2 ^ 32
  | 0x006 => s.sampleCounter.toNat / 2 ^ 32
  | 0x007 => configWord s.cfg
  | 0x008 => s.cfg.blockLen
  | 0x009 => s.cfg.sampleRate
  | 0x00A => causeCode s.rejectCause
  | 0x00B => s.rejectWord.toNat
  | _ => 0

/-- The registers of one patch layer, by field number `f` (rule R51). -/
def patchValue (p : PatchLayer) (f : Nat) : Nat :=
  match f with
  | 0 => shapeCode p.shape
  | 1 => p.attack.toNat
  | 2 => p.decay.toNat
  | 3 => p.sustain.toNat
  | 4 => p.release.toNat
  | 5 => p.mix.toNat
  | _ => 0

/-- The registers of one layer envelope, by field number `g` (rule R52). -/
def envValue (e : LayerEnv) (g : Nat) : Nat :=
  match g with
  | 0 => e.state.code
  | 1 => e.level.toNat
  | 2 => e.rate.toNat
  | _ => 0

/-- The registers of one voice, by offset `o` in 0x00..0x1F (rule R52). -/
def voiceValue (v : Voice) (o : Nat) : Nat :=
  match o with
  | 0x00 => v.note.toNat
  | 0x01 => v.phase.toNat
  | 0x02 => v.tune.toNat
  | 0x03 => v.ts.toNat % 2 ^ 32
  | 0x04 => v.ts.toNat / 2 ^ 32
  | _ => if 0x08 ≤ o ∧ o ≤ 0x17 then envValue (v.env.get (Fin.ofNat 4 ((o - 0x08) / 4))) ((o - 0x08) % 4) else 0

/-- `RegValue(ADDR)`: every address not named reads 0 (rule R53). -/
def regNat (s : State) (a : Nat) : Nat :=
  if a < 0x010 then globalValue s a
  else if a < 0x030 then patchValue (s.patch.get (Fin.ofNat 4 ((a - 0x010) / 8))) ((a - 0x010) % 8)
  else if a < 0x100 then 0
  else if a < 0x200 then voiceValue (s.voices.get (Fin.ofNat 8 ((a - 0x100) / 0x20))) ((a - 0x100) % 0x20)
  else 0

/-- `RegValue(ADDR)` as the response word: the field in its low bits, zeros above. DESIGN CHOICE, unsafe (log 20): rule R10
of 00_scope.md gives SAMPLE_RATE no upper bound, while SAMPLE_RATE_REG has 32 bits (rules R47, R50) and no rule says what it
reads from 2^32 on; here it reads the low 32 bits. The same holds of a BLOCK_LEN of more than 16 bits, which rule R11
excludes. -/
def regValue (s : State) (addr : BitVec 12) : Word := .ofNat 32 (regNat s addr.toNat)

end Sys2Proof.Machine
end

