-- ==== Sys2Proof/Machine/Reads.lean ====
section
/-! DEFINITION. The read commands: each appends one response word and writes nothing else but CP (20_memory.md rules R86,
R87). -/

namespace Sys2Proof.Machine

/-- READ_REG (46_parameters.md rule R307): no address is rejected. -/
def execReadReg (addr : BitVec 12) (s : State) : Result := retire (s.respond (regValue s addr))

/-- READ_WT (41_wavetable_rom.md rule R163): the s16 entry, sign-extended to 32 bits. -/
def execReadWt (shape : Wave) (index : BitVec 12) (s : State) : Result :=
  if wtIndexLegal index then retire (s.respond (.ofInt 32 (memReadWt shape index.toNat)))
  else rejectInstr s .indexRange (.readWt shape index)

/-- READ_PITCH (42_pitch_table.md rule R184). -/
def execReadPitch (note : BitVec 8) (s : State) : Result :=
  if noteLegal note then retire (s.respond (memReadPitch s.cfg note.toNat))
  else rejectInstr s .noteRange (.readPitch note)

/-- READ_ENVLUT (44_envelope.md rule R224). -/
def execReadEnvlut (index : Index14) (s : State) : Result :=
  if indexLegal s.cfg index then retire (s.respond (memReadEnvlut s.cfg index.toNat))
  else rejectInstr s .indexRange (.readEnvlut index)

end Sys2Proof.Machine
end

