-- ==== Sys2Proof/Machine/Dispatch.lean ====
section
/-! DEFINITION. What each command does: one arm per constructor of Instr. -/

namespace Sys2Proof.Machine

/-- The meaning of a command. -/
def exec (i : Instr) (s : State) : Host.Outcome State Fault Refusal :=
  match i with
  | .nop => Sys2Proof.Machine.execNop s
  | .noteOn note vel => Sys2Proof.Machine.execNoteOn note vel s
  | .noteOff note => Sys2Proof.Machine.execNoteOff note s
  | .ctrlAttack value => Sys2Proof.Machine.execCtrlAttack value s
  | .ctrlDecay value => Sys2Proof.Machine.execCtrlDecay value s
  | .ctrlSustain value => Sys2Proof.Machine.execCtrlSustain value s
  | .ctrlRelease value => Sys2Proof.Machine.execCtrlRelease value s
  | .ctrlGain value => Sys2Proof.Machine.execCtrlGain value s
  | .layerShape layer value => Sys2Proof.Machine.execLayerShape layer value s
  | .layerAttack layer value => Sys2Proof.Machine.execLayerAttack layer value s
  | .layerDecay layer value => Sys2Proof.Machine.execLayerDecay layer value s
  | .layerSustain layer value => Sys2Proof.Machine.execLayerSustain layer value s
  | .layerRelease layer value => Sys2Proof.Machine.execLayerRelease layer value s
  | .layerMix layer value => Sys2Proof.Machine.execLayerMix layer value s
  | .render count => Sys2Proof.Machine.execRender count s
  | .poll => Sys2Proof.Machine.execPoll s
  | .readReg addr => Sys2Proof.Machine.execReadReg addr s
  | .readWt shape index => Sys2Proof.Machine.execReadWt shape index s
  | .readPitch note => Sys2Proof.Machine.execReadPitch note s
  | .readEnvlut index => Sys2Proof.Machine.execReadEnvlut index s

end Sys2Proof.Machine
end

