-- ==== Sys2Proof/Machine/Port.lean ====
section
/-! DEFINITION. Consuming what the host presents (30_encoding.md rule R129): the block has no fetch from storage
(20_memory.md rule R95); a command word arrives on the event port with the level of `sink_ready` during its step. -/

namespace Sys2Proof.Machine

/-- The event taken off the port, the level of `sink_ready` sampled with it. -/
def State.consume (s : State) (ready : Bool) (rest : List PortEvent) : State :=
  { s with port := rest, sinkReady := ready }

/-- The reset input asserted, that event taken off the port. -/
def State.consumeReset (s : State) (rest : List PortEvent) : State := { s with port := rest }.resetInput

/-- The word `w` presented first at the port, the level of `sink_ready` as it is. -/
def State.present (s : State) (w : Word) : State := { s with port := .command w s.sinkReady :: s.port }

end Sys2Proof.Machine
end

