-- ==== Sys2Proof/Machine/Step.lean ====
section
/-! DEFINITION. One step of the block (00_scope.md rule R24): one command word, decoded and executed or rejected; or an
assertion of reset; or, with nothing presented, nothing (60_exceptions.md rule R384). -/

namespace Sys2Proof.Machine

/-- A command word executed, or rejected at decode (30_encoding.md rule R125). -/
def execWord (w : Word) (s : State) : Host.Outcome State Fault Refusal :=
  match decode w with
  | .command i => exec i s
  | .reject cause => .next (s.reject cause w)

/-- One step. -/
def step (s : State) : Host.Outcome State Fault Refusal :=
  match s.port with
  | [] => .next s
  | .command w ready :: rest => execWord w (s.consume ready rest)
  | .reset :: rest => .next (s.consumeReset rest)

/-- `s` with an opcode-table word presented as the next command. -/
def State.withFetchWord (s : State) (nbits w : Nat) : State := s.present (tableWord nbits w)

end Sys2Proof.Machine
end

