-- ==== Sys2Proof/Safety.lean ====
section
/-! DEFINITION. What counts as a sound state of the block: the facts of the spec about every reachable state, in the terms
the statements use. -/

namespace Sys2Proof.Machine

/-- The indices of every layer are legal: `0..ENV_MAX_INDEX` (10_state.md rule R35). -/
def State.patchLegal (s : State) : Prop :=
  ∀ l : Fin 4, (s.patch.get l).attack.toNat ≤ s.cfg.envMaxIndex ∧ (s.patch.get l).decay.toNat ≤ s.cfg.envMaxIndex
    ∧ (s.patch.get l).release.toNat ≤ s.cfg.envMaxIndex

/-- "Whenever `V[v].L[l].state = IDLE`, `V[v].L[l].level = 0`" (10_state.md rule R42). -/
def State.idleSilent (s : State) : Prop :=
  ∀ (v : Fin 8) (l : Fin 4), (s.env v l).state = .idle → (s.env v l).level = 0

/-- The bound of the mix, 8 * 4 * 23488 (47_mixer.md rule R339). -/
def mixBound : Nat := 751616

/-- PEAK and the running peak lie within the bound of the mix (47_mixer.md rule R339). DESIGN CHOICE (log 5): that the
running peak has a value between blocks, the last block's. -/
def State.peakBounded (s : State) : Prop := s.peak.toNat ≤ mixBound ∧ s.runPeak.toNat ≤ mixBound

/-- Both channels of every pair hold the same value (47_mixer.md rule R333). -/
def duplicated (block : List StereoPair) : Prop := ∀ p ∈ block, p.left = p.right

/-- Every pair delivered to the sink or held in LOOKAHEAD has equal channels (47_mixer.md rule R333). DESIGN CHOICE (log 4):
that this holds of LOOKAHEAD after reset and after a copy, when its contents are unspecified. -/
def State.outputDuplicated (s : State) : Prop :=
  duplicated s.lookahead ∧ ∀ block ∈ s.sinkOut, duplicated block

/-- A sound state: admitted parameters (their upper sample rate is DEDUCED: log 3), LOOKAHEAD of BLOCK_LEN pairs, legal indices,
silent IDLE layers, a bounded peak and duplicated output. -/
structure State.Inv (s : State) : Prop where
  cfgWf : s.cfg.wf = true
  memoryWf : Memory.wf s = true
  patchLegal : s.patchLegal
  idleSilent : s.idleSilent
  peakBounded : s.peakBounded
  outputDuplicated : s.outputDuplicated

end Sys2Proof.Machine
end

