-- ==== Sys2Proof/WellFormed.lean ====
section
/-! DEFINITION. Which commands carry legal values (30_encoding.md rule R124). The encodable commands that are not well
formed are the ones the block rejects for a range cause; the meanings check the same ranges on their own
(Machine/Operands.lean), and an obligation states that the two agree. -/

namespace Sys2Proof

/-- Rule R124: the legal values beyond the mask. `VEL`, `LAYER`, `ADDR` and `SHAPE` (format W) have no illegal value. -/
def Instr.wf (c : Config) : Instr → Bool
  | .nop => true
  | .noteOn note _ => decide (note.toNat ≤ 127)
  | .noteOff note => decide (note.toNat ≤ 127)
  | .ctrlAttack value => decide (value.toNat ≤ c.envMaxIndex)
  | .ctrlDecay value => decide (value.toNat ≤ c.envMaxIndex)
  | .ctrlSustain value => decide (value.toNat ≤ 127)
  | .ctrlRelease value => decide (value.toNat ≤ c.envMaxIndex)
  | .ctrlGain value => decide (value.toNat ≤ 127)
  | .layerShape _ value => decide (value.toNat ≤ 4)
  | .layerAttack _ value => decide (value.toNat ≤ c.envMaxIndex)
  | .layerDecay _ value => decide (value.toNat ≤ c.envMaxIndex)
  | .layerSustain _ value => decide (value.toNat ≤ 127)
  | .layerRelease _ value => decide (value.toNat ≤ c.envMaxIndex)
  | .layerMix _ value => decide (value.toNat ≤ 127)
  | .render count => decide (1 ≤ count.toNat)
  | .poll => true
  | .readReg _ => true
  | .readWt _ index => decide (index.toNat ≤ 2048)
  | .readPitch note => decide (note.toNat ≤ 127)
  | .readEnvlut index => decide (index.toNat ≤ c.envMaxIndex)

end Sys2Proof
end

