-- ==== Sys2Proof/Certificates/Slice0/Obligations.lean ====
section
/-! DEFINITION. The statements about the block, each a proposition about the model, from the numbered rules of spec/. The
definitions before them spell out the spec's own formulas, apart from the model's, for the statements that compare the
two. -/

namespace Sys2Proof.Claims

open Sys2Proof.Machine

/-- The bits a format defines as zero, below the opcode field (30_encoding.md rules R111 to R119), by opcode. -/
def reservedMask (op : Nat) : Word :=
  match op with
  | 0 => 0x0FFFFFFF
  | 1 => 0x0FFF8000
  | 2 => 0x0FFFFF00
  | 3 => 0x08FFC000
  | 4 => 0x0C8FC000
  | 5 => 0x0FFF0000
  | 6 => 0x0FFFFFFF
  | 7 => 0x0FFFF000
  | 8 => 0x0FFFC000
  | 9 => 0x0FFFFF00
  | _ => 0x0FFFC000

/-- `w[lo+len-1 : lo]`. -/
def bitsOf (w : Word) (lo len : Nat) : Nat := (w.extractLsb' lo len).toNat

/-- The largest legal VALUE of a CTRL_* word, by TGT (rule R124). -/
def ctrlLimit (c : Config) (tgt : Nat) : Nat := if tgt = 2 ∨ tgt = 4 then 127 else c.envMaxIndex

/-- The largest legal VALUE of a LAYER_* word, by PRM (rule R124). -/
def layerLimit (c : Config) (prm : Nat) : Nat :=
  if prm = 0 then 4 else if prm = 3 ∨ prm = 5 then 127 else c.envMaxIndex

/-- The range cause of a word whose opcode, reserved bits and selector are legal (rules R124, R372). -/
def rangeCauseOf (c : Config) (w : Word) : Option RejectCause :=
  let op := bitsOf w 28 4
  if (op = 1 ∨ op = 2 ∨ op = 9) ∧ bitsOf w 0 8 > 127 then some .noteRange
  else if op = 3 ∧ bitsOf w 0 14 > ctrlLimit c (bitsOf w 24 3) then some .valueRange
  else if op = 4 ∧ bitsOf w 0 14 > layerLimit c (bitsOf w 20 3) then some .valueRange
  else if op = 5 ∧ bitsOf w 0 16 = 0 then some .zeroCount
  else if op = 8 ∧ bitsOf w 0 12 > 2048 then some .indexRange
  else if op = 10 ∧ bitsOf w 0 14 > c.envMaxIndex then some .indexRange
  else none

/-- The cause a word is rejected for, if any, in the order of precedence of 60_exceptions.md rule R373. -/
def causeOf (c : Config) (w : Word) : Option RejectCause :=
  let op := bitsOf w 28 4
  if 11 ≤ op then some .reservedOpcode
  else if w &&& reservedMask op ≠ 0 then some .reservedBits
  else if (op = 3 ∧ 5 ≤ bitsOf w 24 3) ∨ (op = 4 ∧ 6 ≤ bitsOf w 20 3) then some .reservedSelector
  else rangeCauseOf c w

/-- The code of a shape selector, INACTIVE being `none` (10_state.md rule R34). -/
def shapeNumber : Option Wave → Nat
  | some .sine => 0
  | some .square => 1
  | some .triangle => 2
  | some .ramp => 3
  | none => 4

/-- The code of an envelope state (10_state.md rule R41). -/
def stateNumber : EnvState → Nat
  | .idle => 0
  | .attack => 1
  | .decay => 2
  | .sustain => 3
  | .release => 4

/-- The code of a rejection cause (60_exceptions.md rule R372). -/
def causeNumber : RejectCause → Nat
  | .none => 0
  | .reservedOpcode => 1
  | .reservedBits => 2
  | .reservedSelector => 3
  | .noteRange => 4
  | .valueRange => 5
  | .zeroCount => 6
  | .indexRange => 7

/-- The value of CONFIG, field by field (10_state.md rule R47). -/
def configNumber (c : Config) : Nat :=
  8 + 4 * 2 ^ 8 + (match c.envIndexBits with | .bits7 => 7 | .bits14 => 14) * 2 ^ 12 +
    (match c.envTickMode with | .perSample => 0 | .perBlock => 1) * 2 ^ 16 +
    (if c.phaseResetOnNoteOn then 1 else 0) * 2 ^ 17 + c.envRateMin.val * 2 ^ 18

/-- Layer `l` is active (10_state.md rule R43). -/
def isActive (s : State) (l : Fin 4) : Prop := (s.patch.get l).shape ≠ none

/-- Voice `v` is free: every active layer of it is IDLE (45_voice_allocator.md rule R270). -/
def isFree (s : State) (v : Fin 8) : Prop := ∀ l, isActive s l → (s.env v l).state = .idle

/-- Voice `v` is sounding: some active layer of it is in ATTACK, DECAY or SUSTAIN (rule R271). -/
def isSounding (s : State) (v : Fin 8) : Prop :=
  ∃ l, isActive s l ∧
    ((s.env v l).state = .attack ∨ (s.env v l).state = .decay ∨ (s.env v l).state = .sustain)

/-- Voice `v` is a candidate for a Note-Off of note `n` (rule R274). -/
def holds (s : State) (n : BitVec 7) (v : Fin 8) : Prop := (s.voices.get v).note = n ∧ isSounding s v

/-- `V[v].ts`. -/
def ts (s : State) (v : Fin 8) : Nat := (s.voices.get v).ts.toNat

/-- A rate: the floored quotient, at least ENV_RATE_MIN (44_envelope.md rule R227). -/
def rateValue (c : Config) (num : Nat) (index : Index14) : Nat :=
  max c.envRateMin.val (num / (memReadEnvlut c index.toNat).toNat)

/-- The oscillator output, spelled out with a floored division (43_oscillator.md rules R202, R203). -/
def oscValue (p : Word) (w : Wave) : Int :=
  let y0 := memReadWt w (bitsOf p 21 11)
  let y1 := memReadWt w (bitsOf p 21 11 + 1)
  y0 + Int.fdiv ((y1 - y0) * bitsOf p 0 21) 2097152

/-- The contribution of a layer to the mix, spelled out (47_mixer.md rule R330); an inactive layer gives none. -/
def layerValue (s : State) (v : Fin 8) (l : Fin 4) : Int :=
  match (s.patch.get l).shape with
  | none => 0
  | some w =>
    Int.tdiv (Int.fdiv (oscValue (s.voices.get v).phase w * (s.env v l).level.toNat) 4294967296
      * (s.patch.get l).mix.toNat) 127

/-- The value of a sample before saturation, spelled out (rule R331). -/
def sampleValue (s : State) : Int :=
  Int.tdiv ((voiceOrder.map fun v => (layerOrder.map fun l => layerValue s v l).sum).sum * s.masterGain.toNat) 127

/-- Layer `l` of voice `v` after `k` single ticks, an inactive layer held (44_envelope.md rule R235). -/
def envAfter (s : State) (k : Nat) (v : Fin 8) (l : Fin 4) : LayerEnv :=
  match (s.patch.get l).shape with
  | none => s.env v l
  | some _ => (LayerEnv.tick s.cfg (s.patch.get l) 1)^[k] (s.env v l)

/-- Layer `l` of voice `v` as sample `k` of a block that starts in `s` finds it, spelled out: ticked once per earlier sample
in PER_SAMPLE mode, unchanged in PER_BLOCK mode (47_mixer.md rules R332, R334; 00_scope.md rule R14). -/
def envAtSample (s : State) (k : Nat) (v : Fin 8) (l : Fin 4) : LayerEnv :=
  match s.cfg.envTickMode with
  | .perSample => envAfter s k v l
  | .perBlock => s.env v l

/-- What sample `k` of a block that starts in `s` is computed from, spelled out: every phase advanced by `k` increments
(rules R201, R332), the envelopes as sample `k` finds them. -/
def atSample (s : State) (k : Nat) : State :=
  { s with voices := Eight.ofFn fun v =>
      { s.voices.get v with
        phase := (s.voices.get v).phase + BitVec.ofNat 32 k * (s.voices.get v).tune
        env := Four.ofFn (envAtSample s k v) } }

/-- The value before saturation of sample `k` of a block that starts in `s`, spelled out. -/
def blockSample (s : State) (k : Nat) : Int := sampleValue (atSample s k)

/-- Layer `l` of voice `v` after a block of `n` samples, spelled out: `n` single ticks in PER_SAMPLE mode, one batch tick of
`n` in PER_BLOCK mode, none for an inactive layer (rules R235, R332, R334). -/
def envAfterBlock (s : State) (n : Nat) (v : Fin 8) (l : Fin 4) : LayerEnv :=
  match (s.patch.get l).shape, s.cfg.envTickMode with
  | none, _ => s.env v l
  | some _, .perSample => (LayerEnv.tick s.cfg (s.patch.get l) 1)^[n] (s.env v l)
  | some _, .perBlock => (s.env v l).tick s.cfg (s.patch.get l) n

/-- `t` and `t'` are equal but for envelopes of layers that are inactive in `s`. -/
def agreeOutside (s t t' : State) : Prop :=
  t' = { t with voices := t'.voices } ∧
    ∀ v, (t'.voices.get v).note = (t.voices.get v).note ∧ (t'.voices.get v).phase = (t.voices.get v).phase ∧
      (t'.voices.get v).tune = (t.voices.get v).tune ∧ (t'.voices.get v).ts = (t.voices.get v).ts ∧
      ∀ l, isActive s l → t'.env v l = t.env v l

/-- The contributions to the mix in the order the mixer adds them (47_mixer.md rule R331). -/
def contributions (s : State) : List Int := voiceOrder.flatMap fun v => layerOrder.map fun l => s.contribution v l

/-- How many samples a command synthesizes (47_mixer.md rules R335, R336). -/
def synthesized (s : State) : Instr → Nat
  | .render count => count.toNat
  | .poll => if s.lookaheadFull then 0 else s.cfg.blockLen
  | _ => 0

/-- An address named by the register map (10_state.md rules R50 to R52). -/
def namedAddress (a : Nat) : Prop :=
  a ≤ 0x00B ∨ (0x010 ≤ a ∧ a < 0x030 ∧ (a - 0x010) % 8 ≤ 5) ∨
    (0x100 ≤ a ∧ a < 0x200 ∧
      ((a - 0x100) % 0x20 ≤ 0x04 ∨
        (0x08 ≤ (a - 0x100) % 0x20 ∧ (a - 0x100) % 0x20 < 0x18 ∧ ((a - 0x100) % 0x20 - 0x08) % 4 ≠ 3)))

end Sys2Proof.Claims

open Sys2Proof Sys2Proof.Machine Sys2Proof.Claims

/-! ## Encoding and decoding -/

/-- Words written out from the formats decode to the commands they stand for (30_encoding.md R111 to R119, R127). -/
def Obligations.WordsOfTheSpecDecode : Prop :=
  decode 0x00000000 = .command .nop ∧ decode 0x10006445 = .command (.noteOn 69 100) ∧
  decode 0x2000003C = .command (.noteOff 60) ∧ decode 0x3300007F = .command (.ctrlRelease 127) ∧
  decode 0x42500020 = .command (.layerMix 2 32) ∧ decode 0x500003E8 = .command (.render 1000) ∧
  decode 0x60000000 = .command .poll ∧ decode 0x70000109 = .command (.readReg 0x109) ∧
  decode 0x800037FF = .command (.readWt .ramp 2047) ∧ decode 0x90000045 = .command (.readPitch 69) ∧
  decode 0xA0000005 = .command (.readEnvlut 5)

/-- Decode and encode agree on every command, with every operand at every value its field admits. -/
def Obligations.DecodeOfEncodeIsTheCommand : Prop := ∀ i : Instr, decode (encode i) = .command i

/-- No bit of an accepted word is dropped: the word of the decoded command is the word. -/
def Obligations.EncodeOfDecodedWordIsTheWord : Prop :=
  ∀ (w : Word) (i : Instr), decode w = .command i → encode i = w

/-- Rule R123: a word is a row's command exactly when `(w & mask) = match`, and the opcodes 0xB..0xF are reserved. -/
def Obligations.DecoderFollowsOpcodeMap : Prop :=
  (∀ (w : Word) (row : Instr), w &&& row.opcodeMask = row.opcodeMatch ↔
    ∃ i, decode w = .command i ∧ i.opcodeMatch = row.opcodeMatch ∧ i.opcodeMask = row.opcodeMask) ∧
  ∀ w : Word, 0xB ≤ bitsOf w 28 4 → decode w = .reject .reservedOpcode

/-- Rules R23 and R373: a word with a cause is rejected for the first cause in the order of precedence, and the rejection
writes REJECT_COUNT, REJECT_CAUSE, REJECT_WORD and the command position, and nothing else of the block's. That the word
comes off the field `port` and its level of `sink_ready` stays in the field `sinkReady` is the model's choice (logs 6, 7). -/
def Obligations.RejectedWordIsRecordedAndHasNoOtherEffect : Prop :=
  ∀ (s : State) (w : Word) (ready : Bool) (rest : List PortEvent) (cause : RejectCause),
    s.port = .command w ready :: rest → causeOf s.cfg w = some cause →
    step s = .next { s with
      port := rest, sinkReady := ready
      rejectCount := s.rejectCount + 1, rejectCause := cause, rejectWord := w, cp := s.cp + 1 }

/-- Rule R125, the other half: a word with no cause is a well-formed command's word, and that command executes. The fields
`port` and `sinkReady` are the model's choice (logs 6, 7). -/
def Obligations.WordWithoutCauseExecutes : Prop :=
  ∀ (s : State) (w : Word) (ready : Bool) (rest : List PortEvent),
    s.port = .command w ready :: rest → causeOf s.cfg w = none →
    ∃ i, decode w = .command i ∧ i.wf s.cfg = true ∧ encode i = w ∧
      step s = exec i { s with port := rest, sinkReady := ready }

/-! ## The step, the port and reset -/

/-- A step runs the decoded command: the event is taken off the port, the level of `sink_ready` sampled with it, and what
follows is `exec`. Both fields are the model's choice (logs 6, 7). -/
def Obligations.StepRunsTheDecodedCommand : Prop :=
  ∀ (s : State) (w : Word) (ready : Bool) (rest : List PortEvent) (i : Instr),
    s.port = .command w ready :: rest → decode w = .command i →
    step s = exec i { s with port := rest, sinkReady := ready }

/-- Rule R384: with no command presented the block does nothing and its state holds. The field `port` is the model's choice
(log 6). -/
def Obligations.StepWithNothingPresentedHolds : Prop := ∀ s : State, s.port = [] → step s = .next s

/-- Rules R400, R401: the reset input puts every register at its reset value and clears CP; the parameters stay. That
what is left at the port and the sampled level of `sink_ready` stay is the model's choice (log 13). -/
def Obligations.ResetInputRestoresTheResetState : Prop :=
  ∀ (s : State) (rest : List PortEvent), s.port = .reset :: rest →
    step s = .next { State.resetWith s.cfg with port := rest, sinkReady := s.sinkReady }

/-- Rules R56, R57: the reset values of the voice pool, the patch and the gain, for every configuration. -/
def Obligations.ResetValuesOfVoicesAndPatch : Prop :=
  ∀ c : Config,
    (∀ v, ((State.resetWith c).voices.get v).note = 0 ∧ ((State.resetWith c).voices.get v).phase = 0 ∧
      ((State.resetWith c).voices.get v).tune = 0 ∧ ((State.resetWith c).voices.get v).ts = 0) ∧
    (∀ v l, (State.resetWith c).env v l = { state := .idle, level := 0, rate := 0 }) ∧
    ((State.resetWith c).patch.get 0).shape = some .sine ∧
    (∀ l, l ≠ 0 → ((State.resetWith c).patch.get l).shape = none) ∧
    (∀ l, ((State.resetWith c).patch.get l).attack = 1 ∧ ((State.resetWith c).patch.get l).decay = 5 ∧
      ((State.resetWith c).patch.get l).sustain = 0x7FFFFFFF ∧ ((State.resetWith c).patch.get l).release = 127 ∧
      ((State.resetWith c).patch.get l).mix = 127) ∧
    (State.resetWith c).masterGain = 127

/-- Rule R58: the reset values of the global registers and the streams. -/
def Obligations.ResetValuesOfGlobals : Prop :=
  ∀ c : Config,
    (State.resetWith c).peak = 0 ∧ (State.resetWith c).dropoutCount = 0 ∧ (State.resetWith c).rejectCount = 0 ∧
    causeNumber (State.resetWith c).rejectCause = 0 ∧ (State.resetWith c).rejectWord = 0 ∧
    (State.resetWith c).lookaheadFull = false ∧ (State.resetWith c).sampleCounter = 0 ∧
    (State.resetWith c).cp = 0 ∧ (State.resetWith c).sinkOut = [] ∧ (State.resetWith c).respOut = []

/-- Rule R31: CP is 0 after reset and every consumed word, executed or rejected, adds exactly 1. -/
def Obligations.EveryWordAdvancesCpByOne : Prop :=
  (∀ c : Config, (State.resetWith c).cp = 0) ∧
  ∀ (s t : State) (w : Word) (ready : Bool) (rest : List PortEvent),
    s.port = .command w ready :: rest → step s = .next t → t.cp = s.cp + 1

/-- Rule R370: no step stops, and the next event is always the next one on the port, a field of the model's choice
(log 6). -/
def Obligations.NoStepStopsAndOrderIsKept : Prop := ∀ s : State, ∃ t, step s = .next t ∧ t.port = s.port.tail

/-- Rule R48: both streams are appended to and never rewritten. That a command appends at most one block and at most one
response word is rule R22 with the commands that emit or respond: RENDER (R335), POLL (R336) and the four reads (R163, R184,
R224, R307). -/
def Obligations.OutputStreamsOnlyGrow : Prop :=
  ∀ (i : Instr) (s t : State), exec i s = .next t →
    (t.sinkOut = s.sinkOut ∨ ∃ b, t.sinkOut = s.sinkOut ++ [b]) ∧
    (t.respOut = s.respOut ∨ ∃ r, t.respOut = s.respOut ++ [r])

/-- Rules R30, R59, R83: no step, reset included, changes the parameters, so none changes a ROM or a hardwired
register. -/
def Obligations.ParametersNeverChange : Prop := ∀ s t : State, step s = .next t → t.cfg = s.cfg

/-! ## Rules about every command -/

/-- Rule R54: each register is written only by the operations named there; a write of an illegal value is rejected as a
whole; READ_REG writes no register. -/
def Obligations.OnlyTheNamedCommandsWrite : Prop :=
  ∀ (i : Instr) (s t : State), exec i s = .next t →
    (∀ l, (t.patch.get l).shape ≠ (s.patch.get l).shape → ∃ v, i = .layerShape l v) ∧
    (∀ l, (t.patch.get l).attack ≠ (s.patch.get l).attack → ∃ v, i = .ctrlAttack v ∨ i = .layerAttack l v) ∧
    (∀ l, (t.patch.get l).decay ≠ (s.patch.get l).decay → ∃ v, i = .ctrlDecay v ∨ i = .layerDecay l v) ∧
    (∀ l, (t.patch.get l).sustain ≠ (s.patch.get l).sustain → ∃ v, i = .ctrlSustain v ∨ i = .layerSustain l v) ∧
    (∀ l, (t.patch.get l).release ≠ (s.patch.get l).release → ∃ v, i = .ctrlRelease v ∨ i = .layerRelease l v) ∧
    (∀ l, (t.patch.get l).mix ≠ (s.patch.get l).mix → ∃ v, i = .layerMix l v) ∧
    (t.masterGain ≠ s.masterGain → ∃ v, i = .ctrlGain v) ∧
    (∀ v, ((t.voices.get v).note ≠ (s.voices.get v).note ∨ (t.voices.get v).tune ≠ (s.voices.get v).tune ∨
      (t.voices.get v).ts ≠ (s.voices.get v).ts) → v = s.findNext ∧ ∃ n k, i = .noteOn n k) ∧
    (∀ v, (t.voices.get v).phase ≠ (s.voices.get v).phase →
      (∃ n, i = .render n) ∨ (i = .poll ∧ s.lookaheadFull = false) ∨
        (s.cfg.phaseResetOnNoteOn = true ∧ ∃ n k, i = .noteOn n k)) ∧
    (∀ v l, t.env v l ≠ s.env v l →
      (∃ n k, i = .noteOn n k) ∨ (∃ n, i = .noteOff n) ∨ (∃ n, i = .render n) ∨
        (i = .poll ∧ s.lookaheadFull = false)) ∧
    ((t.peak ≠ s.peak ∨ t.sampleCounter ≠ s.sampleCounter) →
      (∃ n, i = .render n) ∨ (i = .poll ∧ s.lookaheadFull = false)) ∧
    (t.dropoutCount ≠ s.dropoutCount → i = .poll ∧ s.sinkReady = false ∧ s.lookaheadFull = true) ∧
    ((t.lookaheadFull ≠ s.lookaheadFull ∨ t.lookahead ≠ s.lookahead) → i = .poll) ∧
    ((t.rejectCount ≠ s.rejectCount ∨ t.rejectCause ≠ s.rejectCause ∨ t.rejectWord ≠ s.rejectWord) →
      i.wf s.cfg = false) ∧
    t.cfg = s.cfg ∧
    (i.wf s.cfg = false →
      t = { s with rejectCount := t.rejectCount, rejectCause := t.rejectCause, rejectWord := t.rejectWord, cp := t.cp }) ∧
    (∀ a, i = .readReg a → t = { s with respOut := t.respOut, cp := t.cp })

/-- Rule R44: the envelope of an inactive layer is held unchanged by every command, in every voice, one that makes the
layer active included; and no command that makes a layer active or inactive writes an envelope. -/
def Obligations.InactiveLayersAreHeld : Prop :=
  ∀ (i : Instr) (s t : State), exec i s = .next t →
    (∀ l, (s.patch.get l).shape = none → ∀ v, t.env v l = s.env v l) ∧
    (∀ l w, i = .layerShape l w → ∀ v k, t.env v k = s.env v k)

/-- Rule R44: no tick, Note-On, Note-Off or allocation decision reads the envelope of an inactive layer, nor does the mix:
two states that differ in such envelopes alone are taken by every command but READ_REG to states that differ in the
envelopes of the same layers alone. -/
def Obligations.InactiveLayersAreNotRead : Prop :=
  ∀ (i : Instr) (s s' : State), (∀ a, i ≠ .readReg a) → agreeOutside s s s' →
    ∃ t t', exec i s = .next t ∧ exec i s' = .next t' ∧ agreeOutside s t t'

/-- Rule R225: the transitions of the envelope state machine, all of them, at a tick and over a whole command; an idle or
inactive layer, and every layer under any other command, keeps its state. -/
def Obligations.NoOtherEnvelopeTransition : Prop :=
  (∀ (c : Config) (p : PatchLayer) (n : Nat) (e : LayerEnv),
    (e.tick c p n).state = e.state ∨ (e.state = .attack ∧ (e.tick c p n).state = .decay) ∨
      (e.state = .decay ∧ (e.tick c p n).state = .sustain) ∨ (e.state = .release ∧ (e.tick c p n).state = .idle)) ∧
  ∀ (i : Instr) (s t : State) (v : Fin 8) (l : Fin 4), exec i s = .next t →
    (t.env v l).state ≠ (s.env v l).state →
    isActive s l ∧
      ((v = s.findNext ∧ (t.env v l).state = .attack ∧ ∃ n k, i = .noteOn n k) ∨
       ((s.env v l).state ≠ .idle ∧ (t.env v l).state = .release ∧ ∃ n, i = .noteOff n) ∨
       (((∃ n, i = .render n) ∨ i = .poll) ∧
         (((s.env v l).state = .attack ∧ (t.env v l).state = .decay) ∨
          ((s.env v l).state = .attack ∧ (t.env v l).state = .sustain) ∨
          ((s.env v l).state = .decay ∧ (t.env v l).state = .sustain) ∨
          ((s.env v l).state = .release ∧ (t.env v l).state = .idle))))

/-- Every step keeps the block sound: admitted parameters, LOOKAHEAD of BLOCK_LEN pairs (R46), legal indices (R35), IDLE
layers at level 0 (R42), PEAK within the bound of the mix (R339), both channels equal in every delivered pair and in a filled
LOOKAHEAD (R333). Three clauses rest on the model and not on a rule: the upper sample rate among the admitted parameters
(log 3), the equal channels of LOOKAHEAD after reset and after a copy (log 4), the bound of the running peak between blocks
(log 5). -/
def Obligations.EveryStepKeepsTheInvariant : Prop := ∀ s t : State, s.Inv → step s = .next t → t.Inv

/-- The reset state of every admitted configuration is sound. The upper sample rate among the admitted parameters, the pairs of
zeros in LOOKAHEAD and the running peak 0 are the model's (logs 3, 4, 5). -/
def Obligations.ResetStateMeetsTheInvariant : Prop := ∀ c : Config, c.wf = true → (State.resetWith c).Inv

/-- Rules R46, R58: while LOOKAHEAD_FULL = 0 the contents of LOOKAHEAD cannot be observed: two states that differ in them
alone step to states that differ in them alone, and to the same state when the step fills the buffer. -/
def Obligations.LookaheadIsUnobservableWhileEmpty : Prop :=
  ∀ (s : State) (other : List StereoPair), s.lookaheadFull = false →
    ∃ t u, step s = .next t ∧ step { s with lookahead := other } = .next u ∧
      u = { t with lookahead := u.lookahead } ∧ (t.lookaheadFull = true → u = t)

/-- Rule R61: a command adds to SAMPLE_COUNTER the number of samples it synthesizes, modulo 2^64, wherever they go. -/
def Obligations.SampleCounterCountsSynthesizedSamples : Prop :=
  ∀ (i : Instr) (s t : State), exec i s = .next t →
    t.sampleCounter = s.sampleCounter + BitVec.ofNat 64 (synthesized s i)

/-- Rules R239, R407: a layer with rate 0 in ATTACK below full level, in DECAY above the sustain register, or in RELEASE
above level 0, keeps its envelope under every command but NOTE_ON and NOTE_OFF. -/
def Obligations.StuckEnvelopeStaysUntilANoteCommand : Prop :=
  ∀ (i : Instr) (s t : State) (v : Fin 8) (l : Fin 4), exec i s = .next t → (s.env v l).rate = 0 →
    (((s.env v l).state = .attack ∧ (s.env v l).level.toNat < 2 ^ 32 - 1) ∨
      ((s.env v l).state = .decay ∧ (s.env v l).level.toNat > (s.patch.get l).sustain.toNat) ∨
      ((s.env v l).state = .release ∧ (s.env v l).level ≠ 0)) →
    (∀ n k, i ≠ .noteOn n k) → (∀ n, i ≠ .noteOff n) → t.env v l = s.env v l

/-! ## Synthesis -/

/-- Rules R332, R334, R335: RENDER of n >= 1 samples completes; it emits one block of n pairs, sample k being the saturated
mix of the phases advanced k increments and the envelopes as the tick mode has them at sample k; it counts n samples,
advances every phase by n increments; every active layer takes n single ticks in PER_SAMPLE mode and one batch tick of n in
PER_BLOCK mode, every inactive one is held; and everything else but PEAK (and the hidden RUN_PEAK) stays. -/
def Obligations.RenderEmitsOneBlock : Prop :=
  ∀ (n : BitVec 16) (s : State), 1 ≤ n.toNat → ∃ t b, exec (.render n) s = .next t ∧
    t.sinkOut = s.sinkOut ++ [b] ∧ b.length = n.toNat ∧
    (∀ k, k < n.toNat → b[k]? = some (outputPair (blockSample s k))) ∧
    t.sampleCounter = s.sampleCounter + BitVec.ofNat 64 n.toNat ∧
    (∀ v, (t.voices.get v).phase = (s.voices.get v).phase + BitVec.ofNat 32 n.toNat * (s.voices.get v).tune ∧
      (t.voices.get v).note = (s.voices.get v).note ∧ (t.voices.get v).tune = (s.voices.get v).tune ∧
      (t.voices.get v).ts = (s.voices.get v).ts) ∧
    (∀ v l, t.env v l = envAfterBlock s n.toNat v l) ∧
    t = { s with
      voices := t.voices, peak := t.peak, runPeak := t.runPeak, sampleCounter := t.sampleCounter
      sinkOut := t.sinkOut, cp := s.cp + 1 }

/-- Rules R330, R331, R333: one sample from every state, against the formulas spelled out in integers: the emitted pair is
the saturated mix on both channels, PEAK is its unsaturated magnitude, every phase advances by its increment, every active
envelope ticks once and no other does. -/
def Obligations.OneSampleIsTheSaturatedMix : Prop :=
  ∀ s : State, ∃ t p, exec (.render 1) s = .next t ∧ t.sinkOut = s.sinkOut ++ [[p]] ∧
    p.left.toInt = max (-32768) (min 32767 (sampleValue s)) ∧ p.right = p.left ∧
    t.peak.toNat = (sampleValue s).natAbs ∧
    (∀ v, (t.voices.get v).phase = (s.voices.get v).phase + (s.voices.get v).tune) ∧
    (∀ v l, isActive s l → t.env v l = (s.env v l).tick s.cfg (s.patch.get l) 1) ∧
    (∀ v l, ¬ isActive s l → t.env v l = s.env v l)

/-- In PER_SAMPLE mode a block is the concatenation of its parts: RENDER m then RENDER n emits the samples of RENDER m+n
and leaves the same voices and counter (rules R334, R343). -/
def Obligations.RenderInTwoPartsIsRenderWhole : Prop :=
  ∀ (s : State) (m n : BitVec 16), s.cfg.envTickMode = .perSample → 1 ≤ m.toNat → 1 ≤ n.toNat →
    m.toNat + n.toNat ≤ 65535 →
    ∃ a b t ba bb, exec (.render m) s = .next a ∧ exec (.render n) a = .next b ∧
      exec (.render (m + n)) s = .next t ∧ a.sinkOut = s.sinkOut ++ [ba] ∧ b.sinkOut = a.sinkOut ++ [bb] ∧
      t.sinkOut = s.sinkOut ++ [ba ++ bb] ∧ t.voices = b.voices ∧ t.sampleCounter = b.sampleCounter

/-- Rules R336, R341: POLL completes in every state, and its four cases are the rows of the lookahead state machine. That the
stored pairs stay after they are emitted is the model's choice (log 4). -/
def Obligations.PollFollowsTheLookaheadMachine : Prop :=
  ∀ s : State, (∃ t, exec .poll s = .next t) ∧
    (s.sinkReady = true → s.lookaheadFull = true →
      exec .poll s = .next { s with
        sinkOut := s.sinkOut ++ [s.lookahead], lookaheadFull := false, cp := s.cp + 1 }) ∧
    (s.sinkReady = false → s.lookaheadFull = true →
      exec .poll s = .next { s with dropoutCount := s.dropoutCount + 1, cp := s.cp + 1 }) ∧
    (s.sinkReady = true → s.lookaheadFull = false → 1 ≤ s.cfg.blockLen → s.cfg.blockLen ≤ 65535 →
      exec .poll s = exec (.render (BitVec.ofNat 16 s.cfg.blockLen)) s) ∧
    (s.sinkReady = false → s.lookaheadFull = false → 1 ≤ s.cfg.blockLen → s.cfg.blockLen ≤ 65535 →
      ∃ r b, exec (.render (BitVec.ofNat 16 s.cfg.blockLen)) s = .next r ∧ r.sinkOut = s.sinkOut ++ [b] ∧
        exec .poll s = .next { r with sinkOut := s.sinkOut, lookahead := b, lookaheadFull := true })

/-- Rule R337: a POLL that finds the sink not ready and the lookahead full synthesizes nothing, emits nothing and only
counts the dropout, modulo 2^32. -/
def Obligations.DropoutOnlyCounts : Prop :=
  ∀ s : State, s.sinkReady = false → s.lookaheadFull = true →
    ∃ t, exec .poll s = .next t ∧ t.dropoutCount.toNat = (s.dropoutCount.toNat + 1) % 2 ^ 32 ∧
      t.voices = s.voices ∧ t.peak = s.peak ∧ t.sampleCounter = s.sampleCounter ∧ t.sinkOut = s.sinkOut ∧
      t = { s with dropoutCount := t.dropoutCount, cp := s.cp + 1 }

/-- Rule R343: filling ahead and then copying delivers the very block that RENDER of BLOCK_LEN delivers, and leaves the same
state but for CP, the stored pairs, which stay after the copy by the model's choice (log 4), and the level of `sink_ready`,
a field of the model's choice (log 7). -/
def Obligations.FillAheadThenCopyIsRender : Prop :=
  ∀ s : State, s.sinkReady = false → s.lookaheadFull = false → 1 ≤ s.cfg.blockLen → s.cfg.blockLen ≤ 65535 →
    ∃ t u r, exec .poll s = .next t ∧ exec .poll { t with sinkReady := true } = .next u ∧
      exec (.render (BitVec.ofNat 16 s.cfg.blockLen)) s = .next r ∧
      u = { r with cp := s.cp + 2, lookahead := t.lookahead, sinkReady := true }

/-- Rule R338: PEAK after a block is the largest magnitude of its unsaturated values. -/
def Obligations.PeakIsTheLargestMagnitudeOfTheBlock : Prop :=
  ∀ (n : BitVec 16) (s : State), 1 ≤ n.toNat → ∃ t, exec (.render n) s = .next t ∧
    (∀ k, k < n.toNat → (blockSample s k).natAbs ≤ t.peak.toNat) ∧
    ∃ k, k < n.toNat ∧ (blockSample s k).natAbs = t.peak.toNat

/-- Rule R205: the oscillator output lies between the two entries it interpolates, is an s16, and is the first entry when
the fraction is 0. -/
def Obligations.OscillatorLiesBetweenItsEntries : Prop :=
  ∀ (p : Word) (w : Wave),
    min (memReadWt w (p.toNat / 2 ^ 21)) (memReadWt w (p.toNat / 2 ^ 21 + 1)) ≤ oscSample p w ∧
    oscSample p w ≤ max (memReadWt w (p.toNat / 2 ^ 21)) (memReadWt w (p.toNat / 2 ^ 21 + 1)) ∧
    -32768 ≤ oscSample p w ∧ oscSample p w ≤ 32767 ∧
    (p.toNat % 2 ^ 21 = 0 → oscSample p w = memReadWt w (p.toNat / 2 ^ 21))

/-- Rules R161, R204: the largest step between adjacent entries of each table, and so the exact product of the
interpolation fits a 35-bit signed intermediate. -/
def Obligations.InterpolationProductFits : Prop :=
  ∀ (p : Word) (w : Wave),
    (memReadWt w (p.toNat / 2 ^ 21 + 1) - memReadWt w (p.toNat / 2 ^ 21)).natAbs ≤
      (match w with | .sine => 51 | .square => 2699 | .triangle => 46 | .ramp => 4678) ∧
    ((memReadWt w (p.toNat / 2 ^ 21 + 1) - memReadWt w (p.toNat / 2 ^ 21)) * (p.toNat % 2 ^ 21 : Nat)).natAbs < 2 ^ 34

/-- Rule R339: the bounds of every intermediate of the mix, in its order: the table entry, the oscillator sample s, the product
`s * level` (49 bits signed, the widest), the scaled sample e, the product `e * mix`, the contribution c, the accumulator
after each addition and at the end, the product `acc * gain`, the sample value y; and PEAK fits in 20 bits. -/
def Obligations.MixIsBounded : Prop :=
  (∀ w i, (memReadWt w i).natAbs ≤ 23488) ∧
  (∀ (p level : Word) (w : Wave) (mix : BitVec 7),
    (oscSample p w).natAbs ≤ 23488 ∧ (oscSample p w * level.toNat).natAbs < 2 ^ 48 ∧
    (asr (oscSample p w * level.toNat) 32).natAbs ≤ 23488 ∧
    (asr (oscSample p w * level.toNat) 32 * mix.toNat).natAbs ≤ 23488 * 127) ∧
  (∀ (s : State) (v : Fin 8) (l : Fin 4), (s.contribution v l).natAbs ≤ 23488) ∧
  (∀ (s : State) (k : Nat), (((contributions s).take k).sum).natAbs ≤ 751616) ∧
  (∀ s : State, s.mixSum = (contributions s).sum ∧ s.mixSum.natAbs ≤ 751616 ∧
    (s.mixSum * s.masterGain.toNat).natAbs ≤ 751616 * 127 ∧ s.mixSample.natAbs ≤ 751616) ∧
  ∀ (n : BitVec 16) (s t : State), 1 ≤ n.toNat → exec (.render n) s = .next t → t.peak.toNat < 2 ^ 20

/-! ## Envelopes -/

/-- Rule R227: a rate is the floored quotient, at least ENV_RATE_MIN, and fits its 32-bit register. -/
def Obligations.RateIsTheFlooredQuotient : Prop :=
  ∀ (c : Config) (num d : Nat), num ≤ 2 ^ 32 - 1 → 1 ≤ d →
    (mkRate c num d).toNat = max c.envRateMin.val (num / d) ∧
    (c.envRateMin = 0 → (mkRate c num d).toNat = num / d)

/-- Rules R231 to R234: the tick of each state, on exact sums and differences. -/
def Obligations.TickOfEachState : Prop :=
  ∀ (c : Config) (p : PatchLayer) (n : Nat) (e : LayerEnv),
    (e.state = .attack → e.level.toNat + n * e.rate.toNat ≥ 2 ^ 32 - 1 →
      (e.tick c p n).state = .decay ∧ (e.tick c p n).level = 0xFFFFFFFF ∧
      (e.tick c p n).rate.toNat = rateValue c (2 ^ 32 - 1 - p.sustain.toNat) p.decay) ∧
    (e.state = .attack → e.level.toNat + n * e.rate.toNat < 2 ^ 32 - 1 →
      (e.tick c p n).state = .attack ∧ (e.tick c p n).level.toNat = e.level.toNat + n * e.rate.toNat ∧
      (e.tick c p n).rate = e.rate) ∧
    (e.state = .decay → (n * e.rate.toNat > e.level.toNat ∨ e.level.toNat - n * e.rate.toNat ≤ p.sustain.toNat) →
      e.tick c p n = { state := .sustain, level := p.sustain, rate := e.rate }) ∧
    (e.state = .decay → n * e.rate.toNat ≤ e.level.toNat → e.level.toNat - n * e.rate.toNat > p.sustain.toNat →
      (e.tick c p n).state = .decay ∧ (e.tick c p n).level.toNat = e.level.toNat - n * e.rate.toNat ∧
      (e.tick c p n).rate = e.rate) ∧
    ((e.state = .sustain ∨ e.state = .idle) → e.tick c p n = e) ∧
    (e.state = .release → n * e.rate.toNat ≥ e.level.toNat →
      e.tick c p n = { state := .idle, level := 0, rate := e.rate }) ∧
    (e.state = .release → n * e.rate.toNat < e.level.toNat →
      (e.tick c p n).state = .release ∧ (e.tick c p n).level.toNat = e.level.toNat - n * e.rate.toNat ∧
      (e.tick c p n).rate = e.rate)

/-- Rule R238, over a whole RENDER: the level does not fall while a layer stays in ATTACK, does not rise while it stays in
DECAY or in RELEASE or falls to IDLE, and is constant in SUSTAIN and IDLE. -/
def Obligations.LevelsAreMonotonicOverARender : Prop :=
  ∀ (n : BitVec 16) (s t : State) (v : Fin 8) (l : Fin 4), exec (.render n) s = .next t →
    ((s.env v l).state = .attack → (t.env v l).state = .attack →
      (s.env v l).level.toNat ≤ (t.env v l).level.toNat) ∧
    ((s.env v l).state = .decay → (t.env v l).state = .decay →
      (t.env v l).level.toNat ≤ (s.env v l).level.toNat) ∧
    ((s.env v l).state = .release →
      ((t.env v l).state = .release ∨ (t.env v l).state = .idle) ∧
      (t.env v l).level.toNat ≤ (s.env v l).level.toNat) ∧
    ((s.env v l).state = .sustain ∨ (s.env v l).state = .idle → t.env v l = s.env v l)

/-- Rule R236: a batch tick of n equals n single ticks when no transition fires within the batch, and when the transition
fires exactly on its last period. -/
def Obligations.BatchTickIsRepeatedTick : Prop :=
  ∀ (c : Config) (p : PatchLayer) (n : Nat) (e : LayerEnv),
    ((e.tick c p n).state = e.state → e.tick c p n = (LayerEnv.tick c p 1)^[n] e) ∧
    ((e.tick c p n).state = e.state → (e.tick c p (n + 1)).state ≠ e.state →
      e.tick c p (n + 1) = (LayerEnv.tick c p 1)^[n + 1] e)

/-- Rule R239: with ENV_RATE_MIN = 1 every rate is at least 1, and an envelope whose rate is at least 1 leaves ATTACK,
DECAY and RELEASE within a bounded number of ticks. -/
def Obligations.PositiveRatesEndEveryStage : Prop :=
  (∀ (c : Config) (num d : Nat), c.envRateMin = 1 → num ≤ 2 ^ 32 - 1 → 1 ≤ (mkRate c num d).toNat) ∧
  ∀ (c : Config) (p : PatchLayer) (e : LayerEnv), 1 ≤ e.rate.toNat →
    (e.state = .attack → ∃ k, k ≤ 2 ^ 32 ∧ ((LayerEnv.tick c p 1)^[k] e).state = .decay) ∧
    (e.state = .decay → ∃ k, k ≤ 2 ^ 32 ∧ ((LayerEnv.tick c p 1)^[k] e).state = .sustain) ∧
    (e.state = .release → ∃ k, k ≤ max 1 e.level.toNat ∧
      ((LayerEnv.tick c p 1)^[k] e).state = .idle ∧ ((LayerEnv.tick c p 1)^[k] e).level = 0)

/-! ## The voice allocator and the note commands -/

/-- Rules R270, R272: find_next is the first free voice in scan order, and when none is free the voice with the smallest
timestamp, the lowest index among equals. -/
def Obligations.FindNextIsFirstFreeElseOldest : Prop :=
  ∀ s : State,
    (isFree s s.findNext ∧ ∀ u, u < s.findNext → ¬ isFree s u) ∨
    ((∀ u, ¬ isFree s u) ∧ (∀ u, ts s s.findNext ≤ ts s u) ∧ ∀ u, u < s.findNext → ts s s.findNext < ts s u)

/-- Rules R271, R274: find_for_note_off is the oldest sounding voice that holds the note, the lowest index among equals,
and none exactly when no sounding voice holds it. -/
def Obligations.FindForNoteOffIsOldestSoundingHolder : Prop :=
  ∀ (s : State) (n : BitVec 7),
    (s.findForNoteOff n = none ↔ ∀ v, ¬ holds s n v) ∧
    ∀ v, s.findForNoteOff n = some v →
      holds s n v ∧ (∀ u, holds s n u → ts s v ≤ ts s u) ∧ ∀ u, u < v → holds s n u → ts s v < ts s u

/-- Rule R276 (with R228, R275, R209): NOTE_ON of a legal note completes: the voice find_next returns gets the note, its
tune and the sample count; its phase is kept, or cleared when PHASE_RESET_ON_NOTE_ON; its active layers enter ATTACK with
the rate from their kept level; nothing else changes, whatever the velocity. -/
def Obligations.NoteOnClaimsTheNextVoice : Prop :=
  ∀ (note : BitVec 8) (vel : BitVec 7) (s : State), note.toNat ≤ 127 → ∃ t, exec (.noteOn note vel) s = .next t ∧
    (t.voices.get s.findNext).note.toNat = note.toNat ∧
    (t.voices.get s.findNext).tune = memReadPitch s.cfg note.toNat ∧
    (t.voices.get s.findNext).ts = s.sampleCounter ∧
    (t.voices.get s.findNext).phase = (if s.cfg.phaseResetOnNoteOn then 0 else (s.voices.get s.findNext).phase) ∧
    (∀ l, isActive s l →
      (t.env s.findNext l).state = .attack ∧ (t.env s.findNext l).level = (s.env s.findNext l).level ∧
      (t.env s.findNext l).rate.toNat =
        rateValue s.cfg (2 ^ 32 - 1 - (s.env s.findNext l).level.toNat) (s.patch.get l).attack) ∧
    (∀ l, ¬ isActive s l → t.env s.findNext l = s.env s.findNext l) ∧
    (∀ v, v ≠ s.findNext → t.voices.get v = s.voices.get v) ∧
    t = { s with voices := t.voices, cp := s.cp + 1 }

/-- Rule R277 (with R229, R387): NOTE_OFF of a legal note completes: with no sounding voice holding the note nothing but CP
changes; else every active layer of the selected voice that is not IDLE enters RELEASE with the rate from its kept level,
and nothing else changes. -/
def Obligations.NoteOffReleasesTheSelectedVoice : Prop :=
  ∀ (note : BitVec 8) (s : State), note.toNat ≤ 127 →
    (s.findForNoteOff (BitVec.ofNat 7 note.toNat) = none →
      exec (.noteOff note) s = .next { s with cp := s.cp + 1 }) ∧
    ∀ v, s.findForNoteOff (BitVec.ofNat 7 note.toNat) = some v → ∃ t, exec (.noteOff note) s = .next t ∧
      (∀ l, isActive s l → (s.env v l).state ≠ .idle →
        (t.env v l).state = .release ∧ (t.env v l).level = (s.env v l).level ∧
        (t.env v l).rate.toNat = rateValue s.cfg (s.env v l).level.toNat (s.patch.get l).release) ∧
      (∀ l, (¬ isActive s l ∨ (s.env v l).state = .idle) → t.env v l = s.env v l) ∧
      (t.voices.get v).note = (s.voices.get v).note ∧ (t.voices.get v).phase = (s.voices.get v).phase ∧
      (t.voices.get v).tune = (s.voices.get v).tune ∧ (t.voices.get v).ts = (s.voices.get v).ts ∧
      (∀ u, u ≠ v → t.voices.get u = s.voices.get u) ∧
      t = { s with voices := t.voices, cp := s.cp + 1 }

/-- Rule R278: NOTE_ON has no same-note check: while a layer is active and another voice is free, the next NOTE_ON, of the
same note or another, claims another voice, one that was free: the first NOTE_ON leaves the voice it claims not free (R276,
R228), and find_next takes a free voice where there is one (R272). -/
def Obligations.NextNoteOnClaimsAnotherFreeVoice : Prop :=
  ∀ (note : BitVec 8) (vel : BitVec 7) (s t : State) (u : Fin 8) (l : Fin 4), note.toNat ≤ 127 →
    isActive s l → u ≠ s.findNext → isFree s u → exec (.noteOn note vel) s = .next t →
    t.findNext ≠ s.findNext ∧ isFree s t.findNext

/-- Rule R280: with all four layers inactive NOTE_ON claims voice 0 and writes no envelope, NOTE_OFF has no effect, and the
mix is 0. -/
def Obligations.AllLayersInactive : Prop :=
  ∀ (s : State) (note : BitVec 8) (vel : BitVec 7), (∀ l, ¬ isActive s l) → note.toNat ≤ 127 →
    s.findNext = 0 ∧ exec (.noteOff note) s = .next { s with cp := s.cp + 1 } ∧ s.mixSample = 0 ∧
    ∃ t, exec (.noteOn note vel) s = .next t ∧ (t.voices.get 0).note.toNat = note.toNat ∧
      (∀ v l, t.env v l = s.env v l) ∧ ∀ v, v ≠ 0 → t.voices.get v = s.voices.get v

/-! ## Parameter commands -/

/-- Rule R300: NOP completes in every state and changes CP only. -/
def Obligations.NopChangesCpOnly : Prop := ∀ s : State, exec .nop s = .next { s with cp := s.cp + 1 }

/-- Rules R301, R302, R305, R306: the four envelope controllers, with a legal value, complete and write their field of all
four layers, inactive ones too, and nothing else but CP. -/
def Obligations.ControllersWriteAllLayers : Prop :=
  ∀ (v : Index14) (s : State),
    (v.toNat ≤ s.cfg.envMaxIndex →
      (∃ t, exec (.ctrlAttack v) s = .next t ∧ (∀ l, t.patch.get l = { s.patch.get l with attack := v }) ∧
        t = { s with patch := t.patch, cp := s.cp + 1 }) ∧
      (∃ t, exec (.ctrlDecay v) s = .next t ∧ (∀ l, t.patch.get l = { s.patch.get l with decay := v }) ∧
        t = { s with patch := t.patch, cp := s.cp + 1 }) ∧
      (∃ t, exec (.ctrlRelease v) s = .next t ∧ (∀ l, t.patch.get l = { s.patch.get l with release := v }) ∧
        t = { s with patch := t.patch, cp := s.cp + 1 })) ∧
    (v.toNat ≤ 127 →
      ∃ t, exec (.ctrlSustain v) s = .next t ∧
        (∀ l, (t.patch.get l).sustain.toNat = v.toNat * (2 ^ 32 - 1) / 127 ∧
          t.patch.get l = { s.patch.get l with sustain := (t.patch.get l).sustain }) ∧
        t = { s with patch := t.patch, cp := s.cp + 1 })

/-- Rule R308: CTRL_GAIN with a legal value completes and writes MASTER_GAIN only. -/
def Obligations.ControllerGainWritesTheGain : Prop :=
  ∀ (v : Index14) (s : State), v.toNat ≤ 127 →
    ∃ t, exec (.ctrlGain v) s = .next t ∧ t.masterGain.toNat = v.toNat ∧
      t = { s with masterGain := t.masterGain, cp := s.cp + 1 }

/-- Rules R303, R309 to R313: the six layer commands, with a legal value, complete and write their field of the one layer
they name, and nothing else but CP. -/
def Obligations.LayerCommandsWriteOneLayer : Prop :=
  ∀ (l : Fin 4) (v : Index14) (s : State),
    (v.toNat ≤ 4 → ∃ t, exec (.layerShape l v) s = .next t ∧ shapeNumber (t.patch.get l).shape = v.toNat ∧
      t.patch.get l = { s.patch.get l with shape := (t.patch.get l).shape } ∧
      (∀ k, k ≠ l → t.patch.get k = s.patch.get k) ∧ t = { s with patch := t.patch, cp := s.cp + 1 }) ∧
    (v.toNat ≤ s.cfg.envMaxIndex →
      (∃ t, exec (.layerAttack l v) s = .next t ∧ t.patch.get l = { s.patch.get l with attack := v } ∧
        (∀ k, k ≠ l → t.patch.get k = s.patch.get k) ∧ t = { s with patch := t.patch, cp := s.cp + 1 }) ∧
      (∃ t, exec (.layerDecay l v) s = .next t ∧ t.patch.get l = { s.patch.get l with decay := v } ∧
        (∀ k, k ≠ l → t.patch.get k = s.patch.get k) ∧ t = { s with patch := t.patch, cp := s.cp + 1 }) ∧
      (∃ t, exec (.layerRelease l v) s = .next t ∧ t.patch.get l = { s.patch.get l with release := v } ∧
        (∀ k, k ≠ l → t.patch.get k = s.patch.get k) ∧ t = { s with patch := t.patch, cp := s.cp + 1 })) ∧
    (v.toNat ≤ 127 →
      (∃ t, exec (.layerSustain l v) s = .next t ∧
        (t.patch.get l).sustain.toNat = v.toNat * (2 ^ 32 - 1) / 127 ∧
        t.patch.get l = { s.patch.get l with sustain := (t.patch.get l).sustain } ∧
        (∀ k, k ≠ l → t.patch.get k = s.patch.get k) ∧ t = { s with patch := t.patch, cp := s.cp + 1 }) ∧
      (∃ t, exec (.layerMix l v) s = .next t ∧ (t.patch.get l).mix.toNat = v.toNat ∧
        t.patch.get l = { s.patch.get l with mix := (t.patch.get l).mix } ∧
        (∀ k, k ≠ l → t.patch.get k = s.patch.get k) ∧ t = { s with patch := t.patch, cp := s.cp + 1 }))

/-- Rule R304: SusMap maps 0 to 0, 127 to ENV_MAX, is strictly increasing, has the listed values, and does not reach the
reset value 0x7FFFFFFF. -/
def Obligations.SustainMap : Prop :=
  (∀ v, v ≤ 127 → susMap v = v * (2 ^ 32 - 1) / 127) ∧ susMap 0 = 0 ∧ susMap 127 = 2 ^ 32 - 1 ∧
  (∀ a b, a < b → b ≤ 127 → susMap a < susMap b) ∧ susMap 63 = 0x7EFDFBF7 ∧ susMap 64 = 0x81020407 ∧
  susMap 1 = 33818640 ∧ ∀ v, v ≤ 127 → susMap v ≠ 0x7FFFFFFF

/-- Rules R282, R315: making an active layer inactive and then giving it its shape again leaves every register but CP as it
was: the layer resumes from its held state. -/
def Obligations.MuteAndUnmuteResumes : Prop :=
  ∀ (s : State) (l : Fin 4) (w : Wave), (s.patch.get l).shape = some w →
    ∃ t, exec (.layerShape l 4) s = .next t ∧ ¬ isActive t l ∧
      exec (.layerShape l (BitVec.ofNat 14 (shapeNumber (some w)))) t = .next { s with cp := s.cp + 2 }

/-! ## Reads and the register map -/

/-- Rules R163, R184, R224, R307: each read command, with a legal operand, completes, appends one response word and writes
nothing else but CP; a wavetable entry comes sign-extended. -/
def Obligations.ReadsRespondAndWriteNothingElse : Prop :=
  ∀ s : State,
    (∀ a, exec (.readReg a) s = .next { s with respOut := s.respOut ++ [regValue s a], cp := s.cp + 1 }) ∧
    (∀ w (i : BitVec 12), i.toNat ≤ 2048 → ∃ r : Word, r.toInt = memReadWt w i.toNat ∧
      exec (.readWt w i) s = .next { s with respOut := s.respOut ++ [r], cp := s.cp + 1 }) ∧
    (∀ n : BitVec 8, n.toNat ≤ 127 →
      exec (.readPitch n) s =
        .next { s with respOut := s.respOut ++ [memReadPitch s.cfg n.toNat], cp := s.cp + 1 }) ∧
    (∀ i : Index14, i.toNat ≤ s.cfg.envMaxIndex →
      exec (.readEnvlut i) s =
        .next { s with respOut := s.respOut ++ [memReadEnvlut s.cfg i.toNat], cp := s.cp + 1 })

/-- Rules R50 to R53: the register map of READ_REG, with the codes of SHAPE, ENV_STATE and REJECT_CAUSE (R34, R41, R372) and
the fields of CONFIG (R47) as numbers spelled out apart from the model; every address it does not name reads 0, and no
address is rejected. The two size registers read their parameter where it fits the register. -/
def Obligations.RegisterMap : Prop :=
  ∀ s : State,
    (regValue s 0x000 = s.masterGain.setWidth 32 ∧ regValue s 0x001 = s.peak ∧ regValue s 0x002 = s.dropoutCount ∧
      regValue s 0x003 = s.rejectCount ∧ regValue s 0x004 = (if s.lookaheadFull then 1 else 0) ∧
      regValue s 0x005 = s.sampleCounter.extractLsb' 0 32 ∧ regValue s 0x006 = s.sampleCounter.extractLsb' 32 32 ∧
      (regValue s 0x007).toNat = configNumber s.cfg ∧
      (s.cfg.blockLen < 2 ^ 16 → (regValue s 0x008).toNat = s.cfg.blockLen) ∧
      (s.cfg.sampleRate < 2 ^ 32 → (regValue s 0x009).toNat = s.cfg.sampleRate) ∧
      (regValue s 0x00A).toNat = causeNumber s.rejectCause ∧ regValue s 0x00B = s.rejectWord) ∧
    (∀ l : Fin 4,
      (regValue s (BitVec.ofNat 12 (0x010 + 8 * l.val + 0))).toNat = shapeNumber (s.patch.get l).shape ∧
      regValue s (BitVec.ofNat 12 (0x010 + 8 * l.val + 1)) = (s.patch.get l).attack.setWidth 32 ∧
      regValue s (BitVec.ofNat 12 (0x010 + 8 * l.val + 2)) = (s.patch.get l).decay.setWidth 32 ∧
      regValue s (BitVec.ofNat 12 (0x010 + 8 * l.val + 3)) = (s.patch.get l).sustain ∧
      regValue s (BitVec.ofNat 12 (0x010 + 8 * l.val + 4)) = (s.patch.get l).release.setWidth 32 ∧
      regValue s (BitVec.ofNat 12 (0x010 + 8 * l.val + 5)) = (s.patch.get l).mix.setWidth 32) ∧
    (∀ v : Fin 8,
      regValue s (BitVec.ofNat 12 (0x100 + 0x20 * v.val + 0x00)) = (s.voices.get v).note.setWidth 32 ∧
      regValue s (BitVec.ofNat 12 (0x100 + 0x20 * v.val + 0x01)) = (s.voices.get v).phase ∧
      regValue s (BitVec.ofNat 12 (0x100 + 0x20 * v.val + 0x02)) = (s.voices.get v).tune ∧
      regValue s (BitVec.ofNat 12 (0x100 + 0x20 * v.val + 0x03)) = (s.voices.get v).ts.extractLsb' 0 32 ∧
      regValue s (BitVec.ofNat 12 (0x100 + 0x20 * v.val + 0x04)) = (s.voices.get v).ts.extractLsb' 32 32) ∧
    (∀ (v : Fin 8) (l : Fin 4),
      (regValue s (BitVec.ofNat 12 (0x100 + 0x20 * v.val + 0x08 + 4 * l.val + 0))).toNat = stateNumber (s.env v l).state ∧
      regValue s (BitVec.ofNat 12 (0x100 + 0x20 * v.val + 0x08 + 4 * l.val + 1)) = (s.env v l).level ∧
      regValue s (BitVec.ofNat 12 (0x100 + 0x20 * v.val + 0x08 + 4 * l.val + 2)) = (s.env v l).rate) ∧
    (∀ a : BitVec 12, ¬ namedAddress a.toNat → regValue s a = 0) ∧
    ∀ a, exec (.readReg a) s = .next { s with respOut := s.respOut ++ [regValue s a], cp := s.cp + 1 }

/-- Rule R47: the fields of CONFIG, the two size registers, the value with the default parameters, and that no step writes
any of the three. That a size register reads the low 32 bits of a parameter that does not fit it is the model's choice
(log 20). -/
def Obligations.ConfigRegisterFields : Prop :=
  ∀ s : State,
    bitsOf (regValue s 0x007) 0 8 = 8 ∧ bitsOf (regValue s 0x007) 8 4 = 4 ∧
    bitsOf (regValue s 0x007) 12 4 = (match s.cfg.envIndexBits with | .bits7 => 7 | .bits14 => 14) ∧
    bitsOf (regValue s 0x007) 16 1 = (match s.cfg.envTickMode with | .perSample => 0 | .perBlock => 1) ∧
    bitsOf (regValue s 0x007) 17 1 = (if s.cfg.phaseResetOnNoteOn then 1 else 0) ∧
    bitsOf (regValue s 0x007) 18 1 = s.cfg.envRateMin.val ∧ bitsOf (regValue s 0x007) 19 13 = 0 ∧
    regValue s 0x008 = BitVec.ofNat 32 s.cfg.blockLen ∧ regValue s 0x009 = BitVec.ofNat 32 s.cfg.sampleRate ∧
    (s.cfg.envIndexBits = .bits7 → s.cfg.envTickMode = .perSample → s.cfg.phaseResetOnNoteOn = false →
      s.cfg.envRateMin = 0 → regValue s 0x007 = 0x00007408) ∧
    ∀ t, step s = .next t →
      regValue t 0x007 = regValue s 0x007 ∧ regValue t 0x008 = regValue s 0x008 ∧ regValue t 0x009 = regValue s 0x009

/-! ## The ROMs -/

/-- Rules R180, R181: every pitch entry is the exact real `440 * 2^((n-69)/12) * 2^32 / SAMPLE_RATE` rounded to the nearest
integer (halves up, which for a positive real is away from zero), for every admitted sample rate. -/
def Obligations.PitchRomIsTheRoundedFrequency : Prop :=
  ∀ (c : Config) (n : Nat), 12544 ≤ c.sampleRate → n ≤ 127 →
    ((memReadPitch c n).toNat : ℤ) =
      round ((440 : ℝ) * (2 : ℝ) ^ (((n : ℝ) - 69) / 12) * 2 ^ 32 / (c.sampleRate : ℝ))

/-- Rule R185: for n in 0..115, `PITCH[n+12] - 2 * PITCH[n]` is -1, 0 or 1, at every admitted sample rate. -/
def Obligations.PitchDoublesPerOctave : Prop :=
  ∀ (c : Config) (n : Nat), 12544 ≤ c.sampleRate → n ≤ 115 →
    ((memReadPitch c (n + 12)).toNat : ℤ) - 2 * (memReadPitch c n).toNat ∈ ({-1, 0, 1} : Set ℤ)

/-- Rule R220: every duration entry is `max(1, trunc(t_min * (t_max / t_min) ^ (i / ENV_MAX_INDEX)))` with
`t_min = SAMPLE_RATE / 1000` and `t_max = 10 * SAMPLE_RATE`, exact reals, at every sample rate for which the LUT
fits its u32 (R10, R221) and both index widths. -/
def Obligations.DurationLutIsTheTruncatedTaper : Prop :=
  ∀ (c : Config) (i : Nat), 12544 ≤ c.sampleRate → c.sampleRate < 429496729 → i ≤ c.envMaxIndex →
    (memReadEnvlut c i).toNat =
      max 1 ⌊((c.sampleRate : ℝ) / 1000) *
        (((c.sampleRate : ℝ) * 10) / ((c.sampleRate : ℝ) / 1000)) ^ ((i : ℝ) / (c.envMaxIndex : ℝ))⌋₊

/-- Rule R221: the ends of the LUT, and that it does not decrease. -/
def Obligations.DurationLutEndsAndOrder : Prop :=
  ∀ c : Config, c.wf = true →
    (memReadEnvlut c 0).toNat = max 1 (c.sampleRate / 1000) ∧
    (memReadEnvlut c c.envMaxIndex).toNat = 10 * c.sampleRate ∧
    ∀ i, i < c.envMaxIndex → (memReadEnvlut c i).toNat ≤ (memReadEnvlut c (i + 1)).toNat

/-- Rules R152, R160, R161: the guard entry, the odd symmetry, the zeros and the extreme values of the four tables. -/
def Obligations.WavetableContents : Prop :=
  ∀ w : Wave,
    memReadWt w 2048 = memReadWt w 0 ∧ memReadWt w 0 = 0 ∧ memReadWt w 1024 = 0 ∧
    (∀ i, 1 ≤ i → i ≤ 2047 → memReadWt w (2048 - i) = -memReadWt w i) ∧
    (∀ i, i ≤ 2048 → (memReadWt w i).natAbs ≤
      (match w with | .sine => 16383 | .square => 13648 | .triangle => 19997 | .ramp => 23488)) ∧
    ∃ i, i ≤ 2048 ∧ memReadWt w i =
      (match w with | .sine => 16383 | .square => 13648 | .triangle => 19997 | .ramp => 23488)
end

