-- ==== Sys2Proof/Laws/Rom.lean ====
section
/-! SUPPORT. The search behind the pitch ROM and the duration LUT, and the range of the wavetable entries. -/

-- One theorem after another: side by side they would hold a thread each, and the memory of its stack.
set_option Elab.async false

namespace Sys2Proof.Machine

/-- What the search finds: a number `p` holds of with `p` failing of the next one, for a `p` that holds of the start and
fails at the end of the range. -/
theorem largestFrom_spec (p : Nat → Bool) (bits acc : Nat)
    (h0 : p acc = true) (h1 : p (acc + 2 ^ bits) = false) :
    acc ≤ largestFrom p bits acc ∧ largestFrom p bits acc < acc + 2 ^ bits ∧
      p (largestFrom p bits acc) = true ∧ p (largestFrom p bits acc + 1) = false := by
  induction bits generalizing acc with
  | zero => simpa [largestFrom, h0] using h1
  | succ b ih =>
    rw [largestFrom]
    split
    · have := ih (acc + 2 ^ b) ‹_› (by rw [pow_succ] at h1; rw [← h1]; congr 1; omega)
      have h2 : 2 ^ (b + 1) = 2 ^ b + 2 ^ b := by ring
      exact ⟨by omega, by omega, this.2.2⟩
    · have := ih acc h0 (by simpa using ‹¬p (acc + 2 ^ b) = true›)
      have h2 : 2 ^ (b + 1) = 2 ^ b + 2 ^ b := by ring
      exact ⟨this.1, by omega, this.2.2⟩

/-- Whatever `p` is, the search stays within its range. -/
theorem largestFrom_range (p : Nat → Bool) (bits acc : Nat) :
    acc ≤ largestFrom p bits acc ∧ largestFrom p bits acc < acc + 2 ^ bits := by
  induction bits generalizing acc with
  | zero => simp [largestFrom]
  | succ b ih =>
    rw [largestFrom, pow_succ]
    split
    · have := ih (acc + 2 ^ b); omega
    · have := ih acc; omega

theorem pitchReaches_mono (rate n a b : Nat) (h : a ≤ b) (hb : pitchReaches rate n b = true) :
    pitchReaches rate n a = true := by
  simp only [pitchReaches, decide_eq_true_eq] at *
  exact le_trans (by gcongr) hb

theorem durationReaches_mono (rate m i a b : Nat) (h : a ≤ b) (hb : durationReaches rate m i b = true) :
    durationReaches rate m i a = true := by
  simp only [durationReaches, decide_eq_true_eq] at *
  exact le_trans (by gcongr) hb

theorem waveTable_range : ∀ s : Wave, ∀ rows ∈ waveTable s, ∀ row ∈ rows, ∀ y ∈ row, y.natAbs ≤ 23488 := by
  intro s; cases s <;> decide +kernel

/-- Every wavetable entry lies within 23488 (41_wavetable_rom.md rule R160), whatever the index. -/
theorem memReadWt_range (s : Wave) (i : Nat) : (memReadWt s i).natAbs ≤ 23488 := by
  unfold memReadWt
  simp only [List.getD_eq_getElem?_getD]
  rcases h1 : (waveTable s)[i / 256]? with _ | rows
  · simp
  rcases h2 : rows[i / 16 % 16]? with _ | row
  · simp [h2]
  rcases h3 : row[i % 16]? with _ | y
  · simp [h2, h3]
  · simpa [h2, h3] using waveTable_range s rows (List.mem_of_getElem? h1) row (List.mem_of_getElem? h2) y
      (List.mem_of_getElem? h3)

end Sys2Proof.Machine
end

