-- ==== Sys2Proof/Laws/State.lean ====
section
/-! SUPPORT. One lemma per field per update of State, so that no later proof unfolds a record update; and the lemmas of the
fixed arrays. -/

-- One theorem after another: side by side they would hold a thread each, and the memory of its stack.
set_option Elab.async false

namespace Sys2Proof.Machine

variable {α : Type}

@[simp] theorem Four.get_ofFn (f : Fin 4 → α) (i : Fin 4) : (Four.ofFn f).get i = f i := by
  fin_cases i <;> rfl

@[simp] theorem Eight.get_ofFn (f : Fin 8 → α) (i : Fin 8) : (Eight.ofFn f).get i = f i := by
  fin_cases i <;> rfl

@[simp] theorem Four.ofFn_get (x : Four α) : Four.ofFn x.get = x := rfl

@[simp] theorem Eight.ofFn_get (x : Eight α) : Eight.ofFn x.get = x := rfl

@[simp] theorem Four.get_modify (x : Four α) (i j : Fin 4) (f : α → α) :
    (x.modify i f).get j = if j = i then f (x.get j) else x.get j := by
  simp [Four.modify]

@[simp] theorem Eight.get_modify (x : Eight α) (i j : Fin 8) (f : α → α) :
    (x.modify i f).get j = if j = i then f (x.get j) else x.get j := by
  simp [Eight.modify]

theorem Four.ext_get {x y : Four α} (h : ∀ i, x.get i = y.get i) : x = y := by
  rw [← Four.ofFn_get x, ← Four.ofFn_get y, funext h]

theorem Eight.ext_get {x y : Eight α} (h : ∀ i, x.get i = y.get i) : x = y := by
  rw [← Eight.ofFn_get x, ← Eight.ofFn_get y, funext h]

section advance
variable (s : State)

@[simp] theorem State.advance_cfg : s.advance.cfg = s.cfg := rfl
@[simp] theorem State.advance_patch : s.advance.patch = s.patch := rfl
@[simp] theorem State.advance_masterGain : s.advance.masterGain = s.masterGain := rfl
@[simp] theorem State.advance_voices : s.advance.voices = s.voices := rfl
@[simp] theorem State.advance_peak : s.advance.peak = s.peak := rfl
@[simp] theorem State.advance_dropoutCount : s.advance.dropoutCount = s.dropoutCount := rfl
@[simp] theorem State.advance_rejectCount : s.advance.rejectCount = s.rejectCount := rfl
@[simp] theorem State.advance_rejectCause : s.advance.rejectCause = s.rejectCause := rfl
@[simp] theorem State.advance_rejectWord : s.advance.rejectWord = s.rejectWord := rfl
@[simp] theorem State.advance_lookaheadFull : s.advance.lookaheadFull = s.lookaheadFull := rfl
@[simp] theorem State.advance_lookahead : s.advance.lookahead = s.lookahead := rfl
@[simp] theorem State.advance_sampleCounter : s.advance.sampleCounter = s.sampleCounter := rfl
@[simp] theorem State.advance_runPeak : s.advance.runPeak = s.runPeak := rfl
@[simp] theorem State.advance_cp : s.advance.cp = s.cp + 1 := rfl
@[simp] theorem State.advance_sinkOut : s.advance.sinkOut = s.sinkOut := rfl
@[simp] theorem State.advance_respOut : s.advance.respOut = s.respOut := rfl
@[simp] theorem State.advance_port : s.advance.port = s.port := rfl
@[simp] theorem State.advance_sinkReady : s.advance.sinkReady = s.sinkReady := rfl

end advance

section respond
variable (s : State) (w : Word)

@[simp] theorem State.respond_cfg : (s.respond w).cfg = s.cfg := rfl
@[simp] theorem State.respond_patch : (s.respond w).patch = s.patch := rfl
@[simp] theorem State.respond_masterGain : (s.respond w).masterGain = s.masterGain := rfl
@[simp] theorem State.respond_voices : (s.respond w).voices = s.voices := rfl
@[simp] theorem State.respond_peak : (s.respond w).peak = s.peak := rfl
@[simp] theorem State.respond_dropoutCount : (s.respond w).dropoutCount = s.dropoutCount := rfl
@[simp] theorem State.respond_rejectCount : (s.respond w).rejectCount = s.rejectCount := rfl
@[simp] theorem State.respond_rejectCause : (s.respond w).rejectCause = s.rejectCause := rfl
@[simp] theorem State.respond_rejectWord : (s.respond w).rejectWord = s.rejectWord := rfl
@[simp] theorem State.respond_lookaheadFull : (s.respond w).lookaheadFull = s.lookaheadFull := rfl
@[simp] theorem State.respond_lookahead : (s.respond w).lookahead = s.lookahead := rfl
@[simp] theorem State.respond_sampleCounter : (s.respond w).sampleCounter = s.sampleCounter := rfl
@[simp] theorem State.respond_runPeak : (s.respond w).runPeak = s.runPeak := rfl
@[simp] theorem State.respond_cp : (s.respond w).cp = s.cp := rfl
@[simp] theorem State.respond_sinkOut : (s.respond w).sinkOut = s.sinkOut := rfl
@[simp] theorem State.respond_respOut : (s.respond w).respOut = s.respOut ++ [w] := rfl
@[simp] theorem State.respond_port : (s.respond w).port = s.port := rfl
@[simp] theorem State.respond_sinkReady : (s.respond w).sinkReady = s.sinkReady := rfl

end respond

section emitSink
variable (s : State) (b : List StereoPair)

@[simp] theorem State.emitSink_cfg : (s.emitSink b).cfg = s.cfg := rfl
@[simp] theorem State.emitSink_patch : (s.emitSink b).patch = s.patch := rfl
@[simp] theorem State.emitSink_masterGain : (s.emitSink b).masterGain = s.masterGain := rfl
@[simp] theorem State.emitSink_voices : (s.emitSink b).voices = s.voices := rfl
@[simp] theorem State.emitSink_peak : (s.emitSink b).peak = s.peak := rfl
@[simp] theorem State.emitSink_dropoutCount : (s.emitSink b).dropoutCount = s.dropoutCount := rfl
@[simp] theorem State.emitSink_rejectCount : (s.emitSink b).rejectCount = s.rejectCount := rfl
@[simp] theorem State.emitSink_rejectCause : (s.emitSink b).rejectCause = s.rejectCause := rfl
@[simp] theorem State.emitSink_rejectWord : (s.emitSink b).rejectWord = s.rejectWord := rfl
@[simp] theorem State.emitSink_lookaheadFull : (s.emitSink b).lookaheadFull = s.lookaheadFull := rfl
@[simp] theorem State.emitSink_lookahead : (s.emitSink b).lookahead = s.lookahead := rfl
@[simp] theorem State.emitSink_sampleCounter : (s.emitSink b).sampleCounter = s.sampleCounter := rfl
@[simp] theorem State.emitSink_runPeak : (s.emitSink b).runPeak = s.runPeak := rfl
@[simp] theorem State.emitSink_cp : (s.emitSink b).cp = s.cp := rfl
@[simp] theorem State.emitSink_sinkOut : (s.emitSink b).sinkOut = s.sinkOut ++ [b] := rfl
@[simp] theorem State.emitSink_respOut : (s.emitSink b).respOut = s.respOut := rfl
@[simp] theorem State.emitSink_port : (s.emitSink b).port = s.port := rfl
@[simp] theorem State.emitSink_sinkReady : (s.emitSink b).sinkReady = s.sinkReady := rfl

end emitSink

section reject
variable (s : State) (c : RejectCause) (w : Word)

@[simp] theorem State.reject_cfg : (s.reject c w).cfg = s.cfg := rfl
@[simp] theorem State.reject_patch : (s.reject c w).patch = s.patch := rfl
@[simp] theorem State.reject_masterGain : (s.reject c w).masterGain = s.masterGain := rfl
@[simp] theorem State.reject_voices : (s.reject c w).voices = s.voices := rfl
@[simp] theorem State.reject_peak : (s.reject c w).peak = s.peak := rfl
@[simp] theorem State.reject_dropoutCount : (s.reject c w).dropoutCount = s.dropoutCount := rfl
@[simp] theorem State.reject_rejectCount : (s.reject c w).rejectCount = s.rejectCount + 1 := rfl
@[simp] theorem State.reject_rejectCause : (s.reject c w).rejectCause = c := rfl
@[simp] theorem State.reject_rejectWord : (s.reject c w).rejectWord = w := rfl
@[simp] theorem State.reject_lookaheadFull : (s.reject c w).lookaheadFull = s.lookaheadFull := rfl
@[simp] theorem State.reject_lookahead : (s.reject c w).lookahead = s.lookahead := rfl
@[simp] theorem State.reject_sampleCounter : (s.reject c w).sampleCounter = s.sampleCounter := rfl
@[simp] theorem State.reject_runPeak : (s.reject c w).runPeak = s.runPeak := rfl
@[simp] theorem State.reject_cp : (s.reject c w).cp = s.cp + 1 := rfl
@[simp] theorem State.reject_sinkOut : (s.reject c w).sinkOut = s.sinkOut := rfl
@[simp] theorem State.reject_respOut : (s.reject c w).respOut = s.respOut := rfl
@[simp] theorem State.reject_port : (s.reject c w).port = s.port := rfl
@[simp] theorem State.reject_sinkReady : (s.reject c w).sinkReady = s.sinkReady := rfl

end reject

section storeLookahead
variable (s : State) (b : List StereoPair)

@[simp] theorem State.storeLookahead_cfg : (s.storeLookahead b).cfg = s.cfg := rfl
@[simp] theorem State.storeLookahead_patch : (s.storeLookahead b).patch = s.patch := rfl
@[simp] theorem State.storeLookahead_masterGain : (s.storeLookahead b).masterGain = s.masterGain := rfl
@[simp] theorem State.storeLookahead_voices : (s.storeLookahead b).voices = s.voices := rfl
@[simp] theorem State.storeLookahead_peak : (s.storeLookahead b).peak = s.peak := rfl
@[simp] theorem State.storeLookahead_dropoutCount : (s.storeLookahead b).dropoutCount = s.dropoutCount := rfl
@[simp] theorem State.storeLookahead_rejectCount : (s.storeLookahead b).rejectCount = s.rejectCount := rfl
@[simp] theorem State.storeLookahead_rejectCause : (s.storeLookahead b).rejectCause = s.rejectCause := rfl
@[simp] theorem State.storeLookahead_rejectWord : (s.storeLookahead b).rejectWord = s.rejectWord := rfl
@[simp] theorem State.storeLookahead_lookaheadFull : (s.storeLookahead b).lookaheadFull = true := rfl
@[simp] theorem State.storeLookahead_lookahead : (s.storeLookahead b).lookahead = b := rfl
@[simp] theorem State.storeLookahead_sampleCounter : (s.storeLookahead b).sampleCounter = s.sampleCounter := rfl
@[simp] theorem State.storeLookahead_runPeak : (s.storeLookahead b).runPeak = s.runPeak := rfl
@[simp] theorem State.storeLookahead_cp : (s.storeLookahead b).cp = s.cp := rfl
@[simp] theorem State.storeLookahead_sinkOut : (s.storeLookahead b).sinkOut = s.sinkOut := rfl
@[simp] theorem State.storeLookahead_respOut : (s.storeLookahead b).respOut = s.respOut := rfl
@[simp] theorem State.storeLookahead_port : (s.storeLookahead b).port = s.port := rfl
@[simp] theorem State.storeLookahead_sinkReady : (s.storeLookahead b).sinkReady = s.sinkReady := rfl

end storeLookahead

section emptyLookahead
variable (s : State)

@[simp] theorem State.emptyLookahead_cfg : s.emptyLookahead.cfg = s.cfg := rfl
@[simp] theorem State.emptyLookahead_patch : s.emptyLookahead.patch = s.patch := rfl
@[simp] theorem State.emptyLookahead_masterGain : s.emptyLookahead.masterGain = s.masterGain := rfl
@[simp] theorem State.emptyLookahead_voices : s.emptyLookahead.voices = s.voices := rfl
@[simp] theorem State.emptyLookahead_peak : s.emptyLookahead.peak = s.peak := rfl
@[simp] theorem State.emptyLookahead_dropoutCount : s.emptyLookahead.dropoutCount = s.dropoutCount := rfl
@[simp] theorem State.emptyLookahead_rejectCount : s.emptyLookahead.rejectCount = s.rejectCount := rfl
@[simp] theorem State.emptyLookahead_rejectCause : s.emptyLookahead.rejectCause = s.rejectCause := rfl
@[simp] theorem State.emptyLookahead_rejectWord : s.emptyLookahead.rejectWord = s.rejectWord := rfl
@[simp] theorem State.emptyLookahead_lookaheadFull : s.emptyLookahead.lookaheadFull = false := rfl
@[simp] theorem State.emptyLookahead_lookahead : s.emptyLookahead.lookahead = s.lookahead := rfl
@[simp] theorem State.emptyLookahead_sampleCounter : s.emptyLookahead.sampleCounter = s.sampleCounter := rfl
@[simp] theorem State.emptyLookahead_runPeak : s.emptyLookahead.runPeak = s.runPeak := rfl
@[simp] theorem State.emptyLookahead_cp : s.emptyLookahead.cp = s.cp := rfl
@[simp] theorem State.emptyLookahead_sinkOut : s.emptyLookahead.sinkOut = s.sinkOut := rfl
@[simp] theorem State.emptyLookahead_respOut : s.emptyLookahead.respOut = s.respOut := rfl
@[simp] theorem State.emptyLookahead_port : s.emptyLookahead.port = s.port := rfl
@[simp] theorem State.emptyLookahead_sinkReady : s.emptyLookahead.sinkReady = s.sinkReady := rfl

end emptyLookahead

section updateLayers
variable (s : State) (f : PatchLayer → PatchLayer)

@[simp] theorem State.updateLayers_cfg : (s.updateLayers f).cfg = s.cfg := rfl
@[simp] theorem State.updateLayers_patch : (s.updateLayers f).patch = Four.ofFn fun l => f (s.patch.get l) := rfl
@[simp] theorem State.updateLayers_masterGain : (s.updateLayers f).masterGain = s.masterGain := rfl
@[simp] theorem State.updateLayers_voices : (s.updateLayers f).voices = s.voices := rfl
@[simp] theorem State.updateLayers_peak : (s.updateLayers f).peak = s.peak := rfl
@[simp] theorem State.updateLayers_dropoutCount : (s.updateLayers f).dropoutCount = s.dropoutCount := rfl
@[simp] theorem State.updateLayers_rejectCount : (s.updateLayers f).rejectCount = s.rejectCount := rfl
@[simp] theorem State.updateLayers_rejectCause : (s.updateLayers f).rejectCause = s.rejectCause := rfl
@[simp] theorem State.updateLayers_rejectWord : (s.updateLayers f).rejectWord = s.rejectWord := rfl
@[simp] theorem State.updateLayers_lookaheadFull : (s.updateLayers f).lookaheadFull = s.lookaheadFull := rfl
@[simp] theorem State.updateLayers_lookahead : (s.updateLayers f).lookahead = s.lookahead := rfl
@[simp] theorem State.updateLayers_sampleCounter : (s.updateLayers f).sampleCounter = s.sampleCounter := rfl
@[simp] theorem State.updateLayers_runPeak : (s.updateLayers f).runPeak = s.runPeak := rfl
@[simp] theorem State.updateLayers_cp : (s.updateLayers f).cp = s.cp := rfl
@[simp] theorem State.updateLayers_sinkOut : (s.updateLayers f).sinkOut = s.sinkOut := rfl
@[simp] theorem State.updateLayers_respOut : (s.updateLayers f).respOut = s.respOut := rfl
@[simp] theorem State.updateLayers_port : (s.updateLayers f).port = s.port := rfl
@[simp] theorem State.updateLayers_sinkReady : (s.updateLayers f).sinkReady = s.sinkReady := rfl

end updateLayers

section updateLayer
variable (s : State) (l : Fin 4) (f : PatchLayer → PatchLayer)

@[simp] theorem State.updateLayer_cfg : (s.updateLayer l f).cfg = s.cfg := rfl
@[simp] theorem State.updateLayer_patch : (s.updateLayer l f).patch = s.patch.modify l f := rfl
@[simp] theorem State.updateLayer_masterGain : (s.updateLayer l f).masterGain = s.masterGain := rfl
@[simp] theorem State.updateLayer_voices : (s.updateLayer l f).voices = s.voices := rfl
@[simp] theorem State.updateLayer_peak : (s.updateLayer l f).peak = s.peak := rfl
@[simp] theorem State.updateLayer_dropoutCount : (s.updateLayer l f).dropoutCount = s.dropoutCount := rfl
@[simp] theorem State.updateLayer_rejectCount : (s.updateLayer l f).rejectCount = s.rejectCount := rfl
@[simp] theorem State.updateLayer_rejectCause : (s.updateLayer l f).rejectCause = s.rejectCause := rfl
@[simp] theorem State.updateLayer_rejectWord : (s.updateLayer l f).rejectWord = s.rejectWord := rfl
@[simp] theorem State.updateLayer_lookaheadFull : (s.updateLayer l f).lookaheadFull = s.lookaheadFull := rfl
@[simp] theorem State.updateLayer_lookahead : (s.updateLayer l f).lookahead = s.lookahead := rfl
@[simp] theorem State.updateLayer_sampleCounter : (s.updateLayer l f).sampleCounter = s.sampleCounter := rfl
@[simp] theorem State.updateLayer_runPeak : (s.updateLayer l f).runPeak = s.runPeak := rfl
@[simp] theorem State.updateLayer_cp : (s.updateLayer l f).cp = s.cp := rfl
@[simp] theorem State.updateLayer_sinkOut : (s.updateLayer l f).sinkOut = s.sinkOut := rfl
@[simp] theorem State.updateLayer_respOut : (s.updateLayer l f).respOut = s.respOut := rfl
@[simp] theorem State.updateLayer_port : (s.updateLayer l f).port = s.port := rfl
@[simp] theorem State.updateLayer_sinkReady : (s.updateLayer l f).sinkReady = s.sinkReady := rfl

end updateLayer

section claimVoice
variable (s : State) (n : BitVec 7)

@[simp] theorem State.claimVoice_cfg : (s.claimVoice n).cfg = s.cfg := rfl
@[simp] theorem State.claimVoice_patch : (s.claimVoice n).patch = s.patch := rfl
@[simp] theorem State.claimVoice_masterGain : (s.claimVoice n).masterGain = s.masterGain := rfl
@[simp] theorem State.claimVoice_voices : (s.claimVoice n).voices = s.voices.modify s.findNext (Voice.claim s.cfg s.patch s.sampleCounter n) := rfl
@[simp] theorem State.claimVoice_peak : (s.claimVoice n).peak = s.peak := rfl
@[simp] theorem State.claimVoice_dropoutCount : (s.claimVoice n).dropoutCount = s.dropoutCount := rfl
@[simp] theorem State.claimVoice_rejectCount : (s.claimVoice n).rejectCount = s.rejectCount := rfl
@[simp] theorem State.claimVoice_rejectCause : (s.claimVoice n).rejectCause = s.rejectCause := rfl
@[simp] theorem State.claimVoice_rejectWord : (s.claimVoice n).rejectWord = s.rejectWord := rfl
@[simp] theorem State.claimVoice_lookaheadFull : (s.claimVoice n).lookaheadFull = s.lookaheadFull := rfl
@[simp] theorem State.claimVoice_lookahead : (s.claimVoice n).lookahead = s.lookahead := rfl
@[simp] theorem State.claimVoice_sampleCounter : (s.claimVoice n).sampleCounter = s.sampleCounter := rfl
@[simp] theorem State.claimVoice_runPeak : (s.claimVoice n).runPeak = s.runPeak := rfl
@[simp] theorem State.claimVoice_cp : (s.claimVoice n).cp = s.cp := rfl
@[simp] theorem State.claimVoice_sinkOut : (s.claimVoice n).sinkOut = s.sinkOut := rfl
@[simp] theorem State.claimVoice_respOut : (s.claimVoice n).respOut = s.respOut := rfl
@[simp] theorem State.claimVoice_port : (s.claimVoice n).port = s.port := rfl
@[simp] theorem State.claimVoice_sinkReady : (s.claimVoice n).sinkReady = s.sinkReady := rfl

end claimVoice

section tickEnvelopes
variable (s : State) (n : Nat)

@[simp] theorem State.tickEnvelopes_cfg : (s.tickEnvelopes n).cfg = s.cfg := rfl
@[simp] theorem State.tickEnvelopes_patch : (s.tickEnvelopes n).patch = s.patch := rfl
@[simp] theorem State.tickEnvelopes_masterGain : (s.tickEnvelopes n).masterGain = s.masterGain := rfl
@[simp] theorem State.tickEnvelopes_voices : (s.tickEnvelopes n).voices = Eight.ofFn fun v => (s.voices.get v).onActive s.patch (LayerEnv.tick s.cfg · n) := rfl
@[simp] theorem State.tickEnvelopes_peak : (s.tickEnvelopes n).peak = s.peak := rfl
@[simp] theorem State.tickEnvelopes_dropoutCount : (s.tickEnvelopes n).dropoutCount = s.dropoutCount := rfl
@[simp] theorem State.tickEnvelopes_rejectCount : (s.tickEnvelopes n).rejectCount = s.rejectCount := rfl
@[simp] theorem State.tickEnvelopes_rejectCause : (s.tickEnvelopes n).rejectCause = s.rejectCause := rfl
@[simp] theorem State.tickEnvelopes_rejectWord : (s.tickEnvelopes n).rejectWord = s.rejectWord := rfl
@[simp] theorem State.tickEnvelopes_lookaheadFull : (s.tickEnvelopes n).lookaheadFull = s.lookaheadFull := rfl
@[simp] theorem State.tickEnvelopes_lookahead : (s.tickEnvelopes n).lookahead = s.lookahead := rfl
@[simp] theorem State.tickEnvelopes_sampleCounter : (s.tickEnvelopes n).sampleCounter = s.sampleCounter := rfl
@[simp] theorem State.tickEnvelopes_runPeak : (s.tickEnvelopes n).runPeak = s.runPeak := rfl
@[simp] theorem State.tickEnvelopes_cp : (s.tickEnvelopes n).cp = s.cp := rfl
@[simp] theorem State.tickEnvelopes_sinkOut : (s.tickEnvelopes n).sinkOut = s.sinkOut := rfl
@[simp] theorem State.tickEnvelopes_respOut : (s.tickEnvelopes n).respOut = s.respOut := rfl
@[simp] theorem State.tickEnvelopes_port : (s.tickEnvelopes n).port = s.port := rfl
@[simp] theorem State.tickEnvelopes_sinkReady : (s.tickEnvelopes n).sinkReady = s.sinkReady := rfl

end tickEnvelopes

section advancePhases
variable (s : State)

@[simp] theorem State.advancePhases_cfg : s.advancePhases.cfg = s.cfg := rfl
@[simp] theorem State.advancePhases_patch : s.advancePhases.patch = s.patch := rfl
@[simp] theorem State.advancePhases_masterGain : s.advancePhases.masterGain = s.masterGain := rfl
@[simp] theorem State.advancePhases_voices : s.advancePhases.voices = Eight.ofFn fun v => (s.voices.get v).phaseAdvance := rfl
@[simp] theorem State.advancePhases_peak : s.advancePhases.peak = s.peak := rfl
@[simp] theorem State.advancePhases_dropoutCount : s.advancePhases.dropoutCount = s.dropoutCount := rfl
@[simp] theorem State.advancePhases_rejectCount : s.advancePhases.rejectCount = s.rejectCount := rfl
@[simp] theorem State.advancePhases_rejectCause : s.advancePhases.rejectCause = s.rejectCause := rfl
@[simp] theorem State.advancePhases_rejectWord : s.advancePhases.rejectWord = s.rejectWord := rfl
@[simp] theorem State.advancePhases_lookaheadFull : s.advancePhases.lookaheadFull = s.lookaheadFull := rfl
@[simp] theorem State.advancePhases_lookahead : s.advancePhases.lookahead = s.lookahead := rfl
@[simp] theorem State.advancePhases_sampleCounter : s.advancePhases.sampleCounter = s.sampleCounter := rfl
@[simp] theorem State.advancePhases_runPeak : s.advancePhases.runPeak = s.runPeak := rfl
@[simp] theorem State.advancePhases_cp : s.advancePhases.cp = s.cp := rfl
@[simp] theorem State.advancePhases_sinkOut : s.advancePhases.sinkOut = s.sinkOut := rfl
@[simp] theorem State.advancePhases_respOut : s.advancePhases.respOut = s.respOut := rfl
@[simp] theorem State.advancePhases_port : s.advancePhases.port = s.port := rfl
@[simp] theorem State.advancePhases_sinkReady : s.advancePhases.sinkReady = s.sinkReady := rfl

end advancePhases

section meter
variable (s : State) (y : Int)

@[simp] theorem State.meter_cfg : (s.meter y).cfg = s.cfg := rfl
@[simp] theorem State.meter_patch : (s.meter y).patch = s.patch := rfl
@[simp] theorem State.meter_masterGain : (s.meter y).masterGain = s.masterGain := rfl
@[simp] theorem State.meter_voices : (s.meter y).voices = s.voices := rfl
@[simp] theorem State.meter_peak : (s.meter y).peak = s.peak := rfl
@[simp] theorem State.meter_dropoutCount : (s.meter y).dropoutCount = s.dropoutCount := rfl
@[simp] theorem State.meter_rejectCount : (s.meter y).rejectCount = s.rejectCount := rfl
@[simp] theorem State.meter_rejectCause : (s.meter y).rejectCause = s.rejectCause := rfl
@[simp] theorem State.meter_rejectWord : (s.meter y).rejectWord = s.rejectWord := rfl
@[simp] theorem State.meter_lookaheadFull : (s.meter y).lookaheadFull = s.lookaheadFull := rfl
@[simp] theorem State.meter_lookahead : (s.meter y).lookahead = s.lookahead := rfl
@[simp] theorem State.meter_sampleCounter : (s.meter y).sampleCounter = s.sampleCounter := rfl
@[simp] theorem State.meter_runPeak : (s.meter y).runPeak = .ofNat 32 (max s.runPeak.toNat y.natAbs) := rfl
@[simp] theorem State.meter_cp : (s.meter y).cp = s.cp := rfl
@[simp] theorem State.meter_sinkOut : (s.meter y).sinkOut = s.sinkOut := rfl
@[simp] theorem State.meter_respOut : (s.meter y).respOut = s.respOut := rfl
@[simp] theorem State.meter_port : (s.meter y).port = s.port := rfl
@[simp] theorem State.meter_sinkReady : (s.meter y).sinkReady = s.sinkReady := rfl

end meter

section countSample
variable (s : State)

@[simp] theorem State.countSample_cfg : s.countSample.cfg = s.cfg := rfl
@[simp] theorem State.countSample_patch : s.countSample.patch = s.patch := rfl
@[simp] theorem State.countSample_masterGain : s.countSample.masterGain = s.masterGain := rfl
@[simp] theorem State.countSample_voices : s.countSample.voices = s.voices := rfl
@[simp] theorem State.countSample_peak : s.countSample.peak = s.peak := rfl
@[simp] theorem State.countSample_dropoutCount : s.countSample.dropoutCount = s.dropoutCount := rfl
@[simp] theorem State.countSample_rejectCount : s.countSample.rejectCount = s.rejectCount := rfl
@[simp] theorem State.countSample_rejectCause : s.countSample.rejectCause = s.rejectCause := rfl
@[simp] theorem State.countSample_rejectWord : s.countSample.rejectWord = s.rejectWord := rfl
@[simp] theorem State.countSample_lookaheadFull : s.countSample.lookaheadFull = s.lookaheadFull := rfl
@[simp] theorem State.countSample_lookahead : s.countSample.lookahead = s.lookahead := rfl
@[simp] theorem State.countSample_sampleCounter : s.countSample.sampleCounter = s.sampleCounter + 1 := rfl
@[simp] theorem State.countSample_runPeak : s.countSample.runPeak = s.runPeak := rfl
@[simp] theorem State.countSample_cp : s.countSample.cp = s.cp := rfl
@[simp] theorem State.countSample_sinkOut : s.countSample.sinkOut = s.sinkOut := rfl
@[simp] theorem State.countSample_respOut : s.countSample.respOut = s.respOut := rfl
@[simp] theorem State.countSample_port : s.countSample.port = s.port := rfl
@[simp] theorem State.countSample_sinkReady : s.countSample.sinkReady = s.sinkReady := rfl

end countSample

section startBlock
variable (s : State)

@[simp] theorem State.startBlock_cfg : s.startBlock.cfg = s.cfg := rfl
@[simp] theorem State.startBlock_patch : s.startBlock.patch = s.patch := rfl
@[simp] theorem State.startBlock_masterGain : s.startBlock.masterGain = s.masterGain := rfl
@[simp] theorem State.startBlock_voices : s.startBlock.voices = s.voices := rfl
@[simp] theorem State.startBlock_peak : s.startBlock.peak = s.peak := rfl
@[simp] theorem State.startBlock_dropoutCount : s.startBlock.dropoutCount = s.dropoutCount := rfl
@[simp] theorem State.startBlock_rejectCount : s.startBlock.rejectCount = s.rejectCount := rfl
@[simp] theorem State.startBlock_rejectCause : s.startBlock.rejectCause = s.rejectCause := rfl
@[simp] theorem State.startBlock_rejectWord : s.startBlock.rejectWord = s.rejectWord := rfl
@[simp] theorem State.startBlock_lookaheadFull : s.startBlock.lookaheadFull = s.lookaheadFull := rfl
@[simp] theorem State.startBlock_lookahead : s.startBlock.lookahead = s.lookahead := rfl
@[simp] theorem State.startBlock_sampleCounter : s.startBlock.sampleCounter = s.sampleCounter := rfl
@[simp] theorem State.startBlock_runPeak : s.startBlock.runPeak = 0 := rfl
@[simp] theorem State.startBlock_cp : s.startBlock.cp = s.cp := rfl
@[simp] theorem State.startBlock_sinkOut : s.startBlock.sinkOut = s.sinkOut := rfl
@[simp] theorem State.startBlock_respOut : s.startBlock.respOut = s.respOut := rfl
@[simp] theorem State.startBlock_port : s.startBlock.port = s.port := rfl
@[simp] theorem State.startBlock_sinkReady : s.startBlock.sinkReady = s.sinkReady := rfl

end startBlock

section latchPeak
variable (s : State)

@[simp] theorem State.latchPeak_cfg : s.latchPeak.cfg = s.cfg := rfl
@[simp] theorem State.latchPeak_patch : s.latchPeak.patch = s.patch := rfl
@[simp] theorem State.latchPeak_masterGain : s.latchPeak.masterGain = s.masterGain := rfl
@[simp] theorem State.latchPeak_voices : s.latchPeak.voices = s.voices := rfl
@[simp] theorem State.latchPeak_peak : s.latchPeak.peak = s.runPeak := rfl
@[simp] theorem State.latchPeak_dropoutCount : s.latchPeak.dropoutCount = s.dropoutCount := rfl
@[simp] theorem State.latchPeak_rejectCount : s.latchPeak.rejectCount = s.rejectCount := rfl
@[simp] theorem State.latchPeak_rejectCause : s.latchPeak.rejectCause = s.rejectCause := rfl
@[simp] theorem State.latchPeak_rejectWord : s.latchPeak.rejectWord = s.rejectWord := rfl
@[simp] theorem State.latchPeak_lookaheadFull : s.latchPeak.lookaheadFull = s.lookaheadFull := rfl
@[simp] theorem State.latchPeak_lookahead : s.latchPeak.lookahead = s.lookahead := rfl
@[simp] theorem State.latchPeak_sampleCounter : s.latchPeak.sampleCounter = s.sampleCounter := rfl
@[simp] theorem State.latchPeak_runPeak : s.latchPeak.runPeak = s.runPeak := rfl
@[simp] theorem State.latchPeak_cp : s.latchPeak.cp = s.cp := rfl
@[simp] theorem State.latchPeak_sinkOut : s.latchPeak.sinkOut = s.sinkOut := rfl
@[simp] theorem State.latchPeak_respOut : s.latchPeak.respOut = s.respOut := rfl
@[simp] theorem State.latchPeak_port : s.latchPeak.port = s.port := rfl
@[simp] theorem State.latchPeak_sinkReady : s.latchPeak.sinkReady = s.sinkReady := rfl

end latchPeak

section dropout
variable (s : State)

@[simp] theorem State.dropout_cfg : s.dropout.cfg = s.cfg := rfl
@[simp] theorem State.dropout_patch : s.dropout.patch = s.patch := rfl
@[simp] theorem State.dropout_masterGain : s.dropout.masterGain = s.masterGain := rfl
@[simp] theorem State.dropout_voices : s.dropout.voices = s.voices := rfl
@[simp] theorem State.dropout_peak : s.dropout.peak = s.peak := rfl
@[simp] theorem State.dropout_dropoutCount : s.dropout.dropoutCount = s.dropoutCount + 1 := rfl
@[simp] theorem State.dropout_rejectCount : s.dropout.rejectCount = s.rejectCount := rfl
@[simp] theorem State.dropout_rejectCause : s.dropout.rejectCause = s.rejectCause := rfl
@[simp] theorem State.dropout_rejectWord : s.dropout.rejectWord = s.rejectWord := rfl
@[simp] theorem State.dropout_lookaheadFull : s.dropout.lookaheadFull = s.lookaheadFull := rfl
@[simp] theorem State.dropout_lookahead : s.dropout.lookahead = s.lookahead := rfl
@[simp] theorem State.dropout_sampleCounter : s.dropout.sampleCounter = s.sampleCounter := rfl
@[simp] theorem State.dropout_runPeak : s.dropout.runPeak = s.runPeak := rfl
@[simp] theorem State.dropout_cp : s.dropout.cp = s.cp := rfl
@[simp] theorem State.dropout_sinkOut : s.dropout.sinkOut = s.sinkOut := rfl
@[simp] theorem State.dropout_respOut : s.dropout.respOut = s.respOut := rfl
@[simp] theorem State.dropout_port : s.dropout.port = s.port := rfl
@[simp] theorem State.dropout_sinkReady : s.dropout.sinkReady = s.sinkReady := rfl

end dropout

section copyLookahead
variable (s : State)

@[simp] theorem State.copyLookahead_cfg : s.copyLookahead.cfg = s.cfg := rfl
@[simp] theorem State.copyLookahead_patch : s.copyLookahead.patch = s.patch := rfl
@[simp] theorem State.copyLookahead_masterGain : s.copyLookahead.masterGain = s.masterGain := rfl
@[simp] theorem State.copyLookahead_voices : s.copyLookahead.voices = s.voices := rfl
@[simp] theorem State.copyLookahead_peak : s.copyLookahead.peak = s.peak := rfl
@[simp] theorem State.copyLookahead_dropoutCount : s.copyLookahead.dropoutCount = s.dropoutCount := rfl
@[simp] theorem State.copyLookahead_rejectCount : s.copyLookahead.rejectCount = s.rejectCount := rfl
@[simp] theorem State.copyLookahead_rejectCause : s.copyLookahead.rejectCause = s.rejectCause := rfl
@[simp] theorem State.copyLookahead_rejectWord : s.copyLookahead.rejectWord = s.rejectWord := rfl
@[simp] theorem State.copyLookahead_lookaheadFull : s.copyLookahead.lookaheadFull = false := rfl
@[simp] theorem State.copyLookahead_lookahead : s.copyLookahead.lookahead = s.lookahead := rfl
@[simp] theorem State.copyLookahead_sampleCounter : s.copyLookahead.sampleCounter = s.sampleCounter := rfl
@[simp] theorem State.copyLookahead_runPeak : s.copyLookahead.runPeak = s.runPeak := rfl
@[simp] theorem State.copyLookahead_cp : s.copyLookahead.cp = s.cp := rfl
@[simp] theorem State.copyLookahead_sinkOut : s.copyLookahead.sinkOut = s.sinkOut ++ [s.lookahead] := rfl
@[simp] theorem State.copyLookahead_respOut : s.copyLookahead.respOut = s.respOut := rfl
@[simp] theorem State.copyLookahead_port : s.copyLookahead.port = s.port := rfl
@[simp] theorem State.copyLookahead_sinkReady : s.copyLookahead.sinkReady = s.sinkReady := rfl

end copyLookahead

section consume
variable (s : State) (r : Bool) (rest : List PortEvent)

@[simp] theorem State.consume_cfg : (s.consume r rest).cfg = s.cfg := rfl
@[simp] theorem State.consume_patch : (s.consume r rest).patch = s.patch := rfl
@[simp] theorem State.consume_masterGain : (s.consume r rest).masterGain = s.masterGain := rfl
@[simp] theorem State.consume_voices : (s.consume r rest).voices = s.voices := rfl
@[simp] theorem State.consume_peak : (s.consume r rest).peak = s.peak := rfl
@[simp] theorem State.consume_dropoutCount : (s.consume r rest).dropoutCount = s.dropoutCount := rfl
@[simp] theorem State.consume_rejectCount : (s.consume r rest).rejectCount = s.rejectCount := rfl
@[simp] theorem State.consume_rejectCause : (s.consume r rest).rejectCause = s.rejectCause := rfl
@[simp] theorem State.consume_rejectWord : (s.consume r rest).rejectWord = s.rejectWord := rfl
@[simp] theorem State.consume_lookaheadFull : (s.consume r rest).lookaheadFull = s.lookaheadFull := rfl
@[simp] theorem State.consume_lookahead : (s.consume r rest).lookahead = s.lookahead := rfl
@[simp] theorem State.consume_sampleCounter : (s.consume r rest).sampleCounter = s.sampleCounter := rfl
@[simp] theorem State.consume_runPeak : (s.consume r rest).runPeak = s.runPeak := rfl
@[simp] theorem State.consume_cp : (s.consume r rest).cp = s.cp := rfl
@[simp] theorem State.consume_sinkOut : (s.consume r rest).sinkOut = s.sinkOut := rfl
@[simp] theorem State.consume_respOut : (s.consume r rest).respOut = s.respOut := rfl
@[simp] theorem State.consume_port : (s.consume r rest).port = rest := rfl
@[simp] theorem State.consume_sinkReady : (s.consume r rest).sinkReady = r := rfl

end consume

section present
variable (s : State) (w : Word)

@[simp] theorem State.present_cfg : (s.present w).cfg = s.cfg := rfl
@[simp] theorem State.present_patch : (s.present w).patch = s.patch := rfl
@[simp] theorem State.present_masterGain : (s.present w).masterGain = s.masterGain := rfl
@[simp] theorem State.present_voices : (s.present w).voices = s.voices := rfl
@[simp] theorem State.present_peak : (s.present w).peak = s.peak := rfl
@[simp] theorem State.present_dropoutCount : (s.present w).dropoutCount = s.dropoutCount := rfl
@[simp] theorem State.present_rejectCount : (s.present w).rejectCount = s.rejectCount := rfl
@[simp] theorem State.present_rejectCause : (s.present w).rejectCause = s.rejectCause := rfl
@[simp] theorem State.present_rejectWord : (s.present w).rejectWord = s.rejectWord := rfl
@[simp] theorem State.present_lookaheadFull : (s.present w).lookaheadFull = s.lookaheadFull := rfl
@[simp] theorem State.present_lookahead : (s.present w).lookahead = s.lookahead := rfl
@[simp] theorem State.present_sampleCounter : (s.present w).sampleCounter = s.sampleCounter := rfl
@[simp] theorem State.present_runPeak : (s.present w).runPeak = s.runPeak := rfl
@[simp] theorem State.present_cp : (s.present w).cp = s.cp := rfl
@[simp] theorem State.present_sinkOut : (s.present w).sinkOut = s.sinkOut := rfl
@[simp] theorem State.present_respOut : (s.present w).respOut = s.respOut := rfl
@[simp] theorem State.present_port : (s.present w).port = .command w s.sinkReady :: s.port := rfl
@[simp] theorem State.present_sinkReady : (s.present w).sinkReady = s.sinkReady := rfl

end present

section voices
variable (v : Voice) (c : Config) (p : Four PatchLayer) (k : Word64) (n : BitVec 7) (f : PatchLayer → LayerEnv → LayerEnv)

@[simp] theorem Voice.phaseAdvance_note : v.phaseAdvance.note = v.note := rfl
@[simp] theorem Voice.phaseAdvance_phase : v.phaseAdvance.phase = v.phase + v.tune := rfl
@[simp] theorem Voice.phaseAdvance_tune : v.phaseAdvance.tune = v.tune := rfl
@[simp] theorem Voice.phaseAdvance_ts : v.phaseAdvance.ts = v.ts := rfl
@[simp] theorem Voice.phaseAdvance_env : v.phaseAdvance.env = v.env := rfl

@[simp] theorem Voice.onActive_note : (v.onActive p f).note = v.note := rfl
@[simp] theorem Voice.onActive_phase : (v.onActive p f).phase = v.phase := rfl
@[simp] theorem Voice.onActive_tune : (v.onActive p f).tune = v.tune := rfl
@[simp] theorem Voice.onActive_ts : (v.onActive p f).ts = v.ts := rfl
@[simp] theorem Voice.onActive_env (l : Fin 4) :
    (v.onActive p f).env.get l = if (p.get l).active then f (p.get l) (v.env.get l) else v.env.get l := by
  simp [Voice.onActive]

@[simp] theorem Voice.claim_note : (v.claim c p k n).note = n := rfl
@[simp] theorem Voice.claim_tune : (v.claim c p k n).tune = memReadPitch c n.toNat := rfl
@[simp] theorem Voice.claim_ts : (v.claim c p k n).ts = k := rfl
@[simp] theorem Voice.claim_phase : (v.claim c p k n).phase = if c.phaseResetOnNoteOn then 0 else v.phase := rfl
@[simp] theorem Voice.claim_env (l : Fin 4) :
    (v.claim c p k n).env.get l
      = if (p.get l).active then (v.env.get l).noteOn c (p.get l) else v.env.get l := by
  simp [Voice.claim]

end voices

end Sys2Proof.Machine
end

