-- ==== Sys2Proof/Laws/Block.lean ====
section
/-! SUPPORT. What a sample tick and a block change, and what they leave (47_mixer.md rules R332, R334). -/

-- One theorem after another: side by side they would hold a thread each, and the memory of its stack.
set_option Elab.async false

namespace Sys2Proof.Machine

/-- The fields no sample tick and no block writes. -/
structure SameOutsideSynthesis (s t : State) : Prop where
  cfg : t.cfg = s.cfg
  patch : t.patch = s.patch
  masterGain : t.masterGain = s.masterGain
  dropoutCount : t.dropoutCount = s.dropoutCount
  rejectCount : t.rejectCount = s.rejectCount
  rejectCause : t.rejectCause = s.rejectCause
  rejectWord : t.rejectWord = s.rejectWord
  lookaheadFull : t.lookaheadFull = s.lookaheadFull
  lookahead : t.lookahead = s.lookahead
  cp : t.cp = s.cp
  sinkOut : t.sinkOut = s.sinkOut
  respOut : t.respOut = s.respOut
  port : t.port = s.port
  sinkReady : t.sinkReady = s.sinkReady
  note : ∀ v, (t.voices.get v).note = (s.voices.get v).note
  tune : ∀ v, (t.voices.get v).tune = (s.voices.get v).tune
  ts : ∀ v, (t.voices.get v).ts = (s.voices.get v).ts
  heldEnv : ∀ v l, (s.patch.get l).shape = none → t.env v l = s.env v l

theorem SameOutsideSynthesis.rfl (s : State) : SameOutsideSynthesis s s := by
  constructor <;> intros <;> rfl

theorem SameOutsideSynthesis.trans {s t u : State} (h : SameOutsideSynthesis s t) (k : SameOutsideSynthesis t u) :
    SameOutsideSynthesis s u := by
  refine ⟨k.cfg.trans h.cfg, k.patch.trans h.patch, k.masterGain.trans h.masterGain, k.dropoutCount.trans h.dropoutCount,
    k.rejectCount.trans h.rejectCount, k.rejectCause.trans h.rejectCause, k.rejectWord.trans h.rejectWord,
    k.lookaheadFull.trans h.lookaheadFull, k.lookahead.trans h.lookahead, k.cp.trans h.cp, k.sinkOut.trans h.sinkOut,
    k.respOut.trans h.respOut, k.port.trans h.port, k.sinkReady.trans h.sinkReady, fun v => (k.note v).trans (h.note v),
    fun v => (k.tune v).trans (h.tune v), fun v => (k.ts v).trans (h.ts v), fun v l hl => ?_⟩
  exact (k.heldEnv v l (by rw [h.patch]; exact hl)).trans (h.heldEnv v l hl)

theorem tickEnvelopes_same (s : State) (n : Nat) : SameOutsideSynthesis s (s.tickEnvelopes n) := by
  constructor <;> intros <;> simp_all [State.env, PatchLayer.active]

theorem advancePhases_same (s : State) : SameOutsideSynthesis s s.advancePhases := by
  constructor <;> intros <;> simp [State.env]

theorem meter_same (s : State) (y : Int) : SameOutsideSynthesis s (s.meter y) := by
  constructor <;> intros <;> simp [State.env]

theorem countSample_same (s : State) : SameOutsideSynthesis s s.countSample := by
  constructor <;> intros <;> simp [State.env]

theorem startBlock_same (s : State) : SameOutsideSynthesis s s.startBlock := by
  constructor <;> intros <;> simp [State.env]

theorem latchPeak_same (s : State) : SameOutsideSynthesis s s.latchPeak := by
  constructor <;> intros <;> simp [State.env]

theorem tickPerSample_eq (s : State) : s.tickPerSample = s ∨ s.tickPerSample = s.tickEnvelopes 1 := by
  unfold State.tickPerSample; cases s.cfg.envTickMode <;> simp

theorem tickPerBlock_eq (s : State) (n : Nat) : s.tickPerBlock n = s ∨ s.tickPerBlock n = s.tickEnvelopes n := by
  unfold State.tickPerBlock; cases s.cfg.envTickMode <;> simp

theorem tickPerSample_same (s : State) : SameOutsideSynthesis s s.tickPerSample := by
  rcases tickPerSample_eq s with h | h <;> rw [h]
  exacts [.rfl s, tickEnvelopes_same s 1]

theorem tickPerBlock_same (s : State) (n : Nat) : SameOutsideSynthesis s (s.tickPerBlock n) := by
  rcases tickPerBlock_eq s n with h | h <;> rw [h]
  exacts [.rfl s, tickEnvelopes_same s n]

theorem sampleTick_same (s : State) : SameOutsideSynthesis s s.sampleTick :=
  (((meter_same s _).trans (advancePhases_same _)).trans (tickPerSample_same _)).trans (countSample_same _)

theorem sampleTicks_same (n : Nat) (s : State) : SameOutsideSynthesis s (State.sampleTicks n s) := by
  induction n generalizing s with
  | zero => exact .rfl s
  | succ n ih => exact (sampleTick_same s).trans (ih _)

theorem blockState_same (s : State) (n : Nat) : SameOutsideSynthesis s (s.blockState n) :=
  (((startBlock_same s).trans (sampleTicks_same n _)).trans (tickPerBlock_same _ n)).trans (latchPeak_same _)

@[simp] theorem tickPerSample_phase (s : State) (v : Fin 8) :
    (s.tickPerSample.voices.get v).phase = (s.voices.get v).phase := by
  rcases tickPerSample_eq s with h | h <;> simp [h]

@[simp] theorem tickPerSample_sampleCounter (s : State) : s.tickPerSample.sampleCounter = s.sampleCounter := by
  rcases tickPerSample_eq s with h | h <;> simp [h]

@[simp] theorem tickPerSample_runPeak (s : State) : s.tickPerSample.runPeak = s.runPeak := by
  rcases tickPerSample_eq s with h | h <;> simp [h]

@[simp] theorem tickPerSample_peak (s : State) : s.tickPerSample.peak = s.peak := by
  rcases tickPerSample_eq s with h | h <;> simp [h]

@[simp] theorem tickPerBlock_phase (s : State) (n : Nat) (v : Fin 8) :
    ((s.tickPerBlock n).voices.get v).phase = (s.voices.get v).phase := by
  rcases tickPerBlock_eq s n with h | h <;> simp [h]

@[simp] theorem tickPerBlock_sampleCounter (s : State) (n : Nat) :
    (s.tickPerBlock n).sampleCounter = s.sampleCounter := by
  rcases tickPerBlock_eq s n with h | h <;> simp [h]

@[simp] theorem tickPerBlock_runPeak (s : State) (n : Nat) : (s.tickPerBlock n).runPeak = s.runPeak := by
  rcases tickPerBlock_eq s n with h | h <;> simp [h]

@[simp] theorem sampleTick_phase (s : State) (v : Fin 8) :
    (s.sampleTick.voices.get v).phase = (s.voices.get v).phase + (s.voices.get v).tune := by
  simp [State.sampleTick]

@[simp] theorem sampleTick_sampleCounter (s : State) : s.sampleTick.sampleCounter = s.sampleCounter + 1 := by
  simp [State.sampleTick]

@[simp] theorem sampleTick_runPeak (s : State) :
    s.sampleTick.runPeak = .ofNat 32 (max s.runPeak.toNat s.mixSample.natAbs) := by
  simp [State.sampleTick]

@[simp] theorem sampleTicks_zero (s : State) : State.sampleTicks 0 s = s := rfl

theorem sampleTicks_succ (n : Nat) (s : State) : State.sampleTicks (n + 1) s = State.sampleTicks n s.sampleTick := rfl

@[simp] theorem sampleOuts_zero (s : State) : State.sampleOuts 0 s = [] := rfl

theorem sampleOuts_succ (n : Nat) (s : State) :
    State.sampleOuts (n + 1) s = s.sampleOut :: State.sampleOuts n s.sampleTick := rfl

@[simp] theorem sampleOuts_length (n : Nat) (s : State) : (State.sampleOuts n s).length = n := by
  induction n generalizing s with
  | zero => rfl
  | succ n ih => simp [sampleOuts_succ, ih]

@[simp] theorem blockOut_length (s : State) (n : Nat) : (s.blockOut n).length = n := by simp [State.blockOut]

theorem sampleTicks_add (m n : Nat) (s : State) :
    State.sampleTicks (m + n) s = State.sampleTicks n (State.sampleTicks m s) := by
  induction m generalizing s with
  | zero => simp
  | succ m ih => rw [Nat.succ_add, sampleTicks_succ, sampleTicks_succ, ih]

/-! What a block does to the voices: the phases in either mode, the envelopes in each (44_envelope.md rule R235). -/

/-- Every phase advances once per sample tick. -/
theorem sampleTicks_phase (n : Nat) (s : State) (v : Fin 8) :
    ((State.sampleTicks n s).voices.get v).phase = (s.voices.get v).phase + .ofNat 32 n * (s.voices.get v).tune := by
  induction n generalizing s with
  | zero => simp
  | succ n ih =>
    rw [sampleTicks_succ, ih, sampleTick_phase, (sampleTick_same s).tune, BitVec.ofNat_add, BitVec.add_mul,
      BitVec.one_mul, BitVec.add_assoc, BitVec.add_comm (_ * _)]

theorem blockState_phase (n : Nat) (s : State) (v : Fin 8) :
    ((s.blockState n).voices.get v).phase = (s.voices.get v).phase + .ofNat 32 n * (s.voices.get v).tune := by
  simp [State.blockState, sampleTicks_phase]

theorem blockState_sampleCounter (n : Nat) (s : State) :
    (s.blockState n).sampleCounter = s.sampleCounter + .ofNat 64 n := by
  have h : ∀ s : State, (State.sampleTicks n s).sampleCounter = s.sampleCounter + .ofNat 64 n := by
    induction n with
    | zero => simp
    | succ n ih =>
      intro s
      rw [sampleTicks_succ, ih, sampleTick_sampleCounter, BitVec.ofNat_add, BitVec.add_assoc, BitVec.add_comm 1]
      rfl
  simp [State.blockState, h]

/-- An envelope tick of the whole pool, layer by layer. -/
theorem tickEnvelopes_env (s : State) (n : Nat) (v : Fin 8) (l : Fin 4) :
    (s.tickEnvelopes n).env v l
      = if (s.patch.get l).active then (s.env v l).tick s.cfg (s.patch.get l) n else s.env v l := by
  simp [State.env]

theorem sampleTick_env_perSample (s : State) (h : s.cfg.envTickMode = .perSample) (v : Fin 8) (l : Fin 4) :
    s.sampleTick.env v l
      = if (s.patch.get l).active then (s.env v l).tick s.cfg (s.patch.get l) 1 else s.env v l := by
  simp [State.sampleTick, State.tickPerSample, State.env, h]

theorem sampleTick_env_perBlock (s : State) (h : s.cfg.envTickMode = .perBlock) (v : Fin 8) (l : Fin 4) :
    s.sampleTick.env v l = s.env v l := by
  simp [State.sampleTick, State.tickPerSample, State.env, h]

/-- In PER_SAMPLE mode `n` sample ticks are `n` single ticks of every active layer. -/
theorem sampleTicks_env_perSample (n : Nat) (s : State) (h : s.cfg.envTickMode = .perSample) (v : Fin 8) (l : Fin 4) :
    (State.sampleTicks n s).env v l
      = if (s.patch.get l).active then (LayerEnv.tick s.cfg (s.patch.get l) 1)^[n] (s.env v l) else s.env v l := by
  induction n generalizing s with
  | zero => simp
  | succ n ih =>
    have k := sampleTick_same s
    rw [sampleTicks_succ, ih s.sampleTick (by rw [k.cfg, h]), k.cfg, k.patch, sampleTick_env_perSample s h]
    split <;> simp

/-- In PER_BLOCK mode sample ticks leave every envelope. -/
theorem sampleTicks_env_perBlock (n : Nat) (s : State) (h : s.cfg.envTickMode = .perBlock) (v : Fin 8) (l : Fin 4) :
    (State.sampleTicks n s).env v l = s.env v l := by
  induction n generalizing s with
  | zero => rfl
  | succ n ih =>
    rw [sampleTicks_succ, ih s.sampleTick (by rw [(sampleTick_same s).cfg, h]), sampleTick_env_perBlock s h]

theorem latchPeak_env (s : State) (v : Fin 8) (l : Fin 4) : s.latchPeak.env v l = s.env v l := rfl

/-- In PER_SAMPLE mode a block of `n` is `n` single ticks of every active layer. -/
theorem blockState_env_perSample (n : Nat) (s : State) (h : s.cfg.envTickMode = .perSample) (v : Fin 8) (l : Fin 4) :
    (s.blockState n).env v l
      = if (s.patch.get l).active then (LayerEnv.tick s.cfg (s.patch.get l) 1)^[n] (s.env v l) else s.env v l := by
  have k := sampleTicks_same n s.startBlock
  have e : (State.sampleTicks n s.startBlock).tickPerBlock n = State.sampleTicks n s.startBlock := by
    simp [State.tickPerBlock, k.cfg, h]
  rw [State.blockState, latchPeak_env, e, sampleTicks_env_perSample n _ (by simpa using h)]
  rfl

/-- In PER_BLOCK mode a block of `n` is one batch tick of `n` of every active layer. -/
theorem blockState_env_perBlock (n : Nat) (s : State) (h : s.cfg.envTickMode = .perBlock) (v : Fin 8) (l : Fin 4) :
    (s.blockState n).env v l
      = if (s.patch.get l).active then (s.env v l).tick s.cfg (s.patch.get l) n else s.env v l := by
  have k := sampleTicks_same n s.startBlock
  have e : (State.sampleTicks n s.startBlock).tickPerBlock n = (State.sampleTicks n s.startBlock).tickEnvelopes n := by
    simp [State.tickPerBlock, k.cfg, h]
  rw [State.blockState, latchPeak_env, e, tickEnvelopes_env, k.cfg, k.patch,
    sampleTicks_env_perBlock n _ (by simpa using h)]
  rfl

/-- `Memory.wf` is kept by a store of a whole block, the one write of LOOKAHEAD. -/
theorem storeLookahead_memoryWf (s : State) (b : List StereoPair) (h : b.length = s.cfg.blockLen) :
    Memory.wf (s.storeLookahead b) = true := by
  simp [Memory.wf, h]

theorem fillAhead_memoryWf (s : State) : Memory.wf s.fillAhead = true := by
  simp [Memory.wf, State.fillAhead, (blockState_same s _).cfg]

theorem resetWith_memoryWf (c : Config) : Memory.wf (State.resetWith c) = true := by
  simp [Memory.wf, State.resetWith]

end Sys2Proof.Machine
end

