-- ==== Sys2Proof/Laws/Decode.lean ====
section
/-! SUPPORT. Small lemmas of the decoder's parts. -/

-- One theorem after another: side by side they would hold a thread each, and the memory of its stack.
set_option Elab.async false

namespace Sys2Proof

theorem field_lt (w : Word) (lo len : Nat) : field w lo len < 2 ^ len := Nat.mod_lt _ (by positivity)

@[simp] theorem unlessReserved_zero (d : Decoded) : unlessReserved 0 d = d := rfl

theorem unlessReserved_command {z : Nat} {d : Decoded} {i : Instr} :
    unlessReserved z d = .command i ↔ z = 0 ∧ d = .command i := by
  unfold unlessReserved; split <;> simp_all

theorem unlessReserved_reject {z : Nat} {d : Decoded} {c : RejectCause} :
    unlessReserved z d = .reject c ↔ (z ≠ 0 ∧ c = .reservedBits) ∨ (z = 0 ∧ d = .reject c) := by
  unfold unlessReserved; split <;> simp_all [eq_comm]

@[simp] theorem waveOfCode_waveCode (s : Wave) : waveOfCode (waveCode s) = s := by cases s <;> rfl

theorem waveCode_lt (s : Wave) : waveCode s < 4 := by cases s <;> decide

/-- A field of a word given as a number below 2^32. -/
theorem field_ofNat {n : Nat} (h : n < 2 ^ 32) (lo len : Nat) : field (.ofNat 32 n) lo len = n / 2 ^ lo % 2 ^ len := by
  rw [field, BitVec.toNat_ofNat, Nat.mod_eq_of_lt h]

end Sys2Proof
end

