-- ==== Sys2Proof/Laws/Envelope.lean ====
section
/-! SUPPORT. What one envelope operation can do (44_envelope.md section 2), said once. -/

-- One theorem after another: side by side they would hold a thread each, and the memory of its stack.
set_option Elab.async false

namespace Sys2Proof.Machine

variable (c : Config) (p : PatchLayer) (n : Nat) (e : LayerEnv)

@[simp] theorem noteOn_state : (e.noteOn c p).state = .attack := rfl
@[simp] theorem noteOn_level : (e.noteOn c p).level = e.level := rfl
@[simp] theorem noteOff_state : (e.noteOff c p).state = .release := rfl
@[simp] theorem noteOff_level : (e.noteOff c p).level = e.level := rfl

/-- A rate is the floored quotient, at least ENV_RATE_MIN, and fits its register (44_envelope.md rule R227). -/
theorem mkRate_toNat (num d : Nat) (h : num ≤ envMax) : (mkRate c num d).toNat = max c.envRateMin.val (num / d) := by
  have h1 : num / d ≤ num := Nat.div_le_self _ _
  have h2 : c.envRateMin.val < 2 := c.envRateMin.isLt
  simp only [envMax] at h
  simp only [mkRate, BitVec.toNat_ofNat]
  exact Nat.mod_eq_of_lt (by omega)

/-- The three outcomes of a release of a layer. -/
theorem releaseUnlessIdle_cases :
    (e.state = .idle ∧ e.releaseUnlessIdle c p = e) ∨ (e.state ≠ .idle ∧ e.releaseUnlessIdle c p = e.noteOff c p) := by
  unfold LayerEnv.releaseUnlessIdle; split <;> simp_all

theorem tick_idle (h : e.state = .idle) : e.tick c p n = e := by simp [LayerEnv.tick, h]

theorem tick_sustain (h : e.state = .sustain) : e.tick c p n = e := by simp [LayerEnv.tick, h]

theorem tick_attack (h : e.state = .attack) : e.tick c p n = e.tickAttack c p n := by simp [LayerEnv.tick, h]

theorem tick_decay (h : e.state = .decay) : e.tick c p n = e.tickDecay p n := by simp [LayerEnv.tick, h]

theorem tick_release (h : e.state = .release) : e.tick c p n = e.tickRelease n := by simp [LayerEnv.tick, h]

/-- The clamp of ATTACK at ENV_MAX. -/
theorem tickAttack_clamp (h : envMax ≤ e.level.toNat + n * e.rate.toNat) :
    e.tickAttack c p n =
      ⟨.decay, .ofNat 32 envMax, mkRate c (envMax - p.sustain.toNat) (durationSamples c p.decay)⟩ := if_pos h

theorem tickAttack_rise (h : e.level.toNat + n * e.rate.toNat < envMax) :
    e.tickAttack c p n = ⟨e.state, .ofNat 32 (e.level.toNat + n * e.rate.toNat), e.rate⟩ := if_neg (by omega)

/-- The clamp of DECAY at the sustain register. -/
theorem tickDecay_clamp
    (h : e.level.toNat < n * e.rate.toNat ∨ e.level.toNat - n * e.rate.toNat ≤ p.sustain.toNat) :
    e.tickDecay p n = ⟨.sustain, p.sustain, e.rate⟩ := if_pos h

theorem tickDecay_fall (h : n * e.rate.toNat ≤ e.level.toNat)
    (k : p.sustain.toNat < e.level.toNat - n * e.rate.toNat) :
    e.tickDecay p n = ⟨e.state, .ofNat 32 (e.level.toNat - n * e.rate.toNat), e.rate⟩ := if_neg (by omega)

/-- The clamp of RELEASE at 0. -/
theorem tickRelease_clamp (h : e.level.toNat ≤ n * e.rate.toNat) : e.tickRelease n = ⟨.idle, 0, e.rate⟩ := if_pos h

theorem tickRelease_fall (h : n * e.rate.toNat < e.level.toNat) :
    e.tickRelease n = ⟨e.state, .ofNat 32 (e.level.toNat - n * e.rate.toNat), e.rate⟩ := if_neg (by omega)

/-- The outcomes of a tick, by the state it starts from. -/
theorem tick_cases :
    ((e.state = .idle ∨ e.state = .sustain) ∧ e.tick c p n = e) ∨
      (e.state = .attack ∧ envMax ≤ e.level.toNat + n * e.rate.toNat ∧ (e.tick c p n).state = .decay
        ∧ (e.tick c p n).level.toNat = envMax) ∨
      (e.state = .attack ∧ e.level.toNat + n * e.rate.toNat < envMax ∧ (e.tick c p n).state = .attack
        ∧ (e.tick c p n).rate = e.rate ∧ (e.tick c p n).level.toNat = e.level.toNat + n * e.rate.toNat) ∨
      (e.state = .decay ∧ (e.level.toNat < n * e.rate.toNat ∨ e.level.toNat - n * e.rate.toNat ≤ p.sustain.toNat)
        ∧ (e.tick c p n).state = .sustain ∧ (e.tick c p n).rate = e.rate ∧ (e.tick c p n).level = p.sustain) ∨
      (e.state = .decay ∧ n * e.rate.toNat ≤ e.level.toNat ∧ p.sustain.toNat < e.level.toNat - n * e.rate.toNat
        ∧ (e.tick c p n).state = .decay ∧ (e.tick c p n).rate = e.rate
        ∧ (e.tick c p n).level.toNat = e.level.toNat - n * e.rate.toNat) ∨
      (e.state = .release ∧ e.level.toNat ≤ n * e.rate.toNat ∧ (e.tick c p n).state = .idle
        ∧ (e.tick c p n).rate = e.rate ∧ (e.tick c p n).level = 0) ∨
      (e.state = .release ∧ n * e.rate.toNat < e.level.toNat ∧ (e.tick c p n).state = .release
        ∧ (e.tick c p n).rate = e.rate ∧ (e.tick c p n).level.toNat = e.level.toNat - n * e.rate.toNat) := by
  have hlv := e.level.isLt
  rcases h : e.state with _ | _ | _ | _ | _
  · exact .inl ⟨.inl rfl, tick_idle c p n e h⟩
  · by_cases hd : envMax ≤ e.level.toNat + n * e.rate.toNat
    · rw [tick_attack c p n e h, tickAttack_clamp c p n e hd]
      exact .inr (.inl ⟨rfl, hd, rfl, rfl⟩)
    · rw [tick_attack c p n e h, tickAttack_rise c p n e (by omega), h]
      exact .inr (.inr (.inl ⟨rfl, by omega, rfl, rfl, Nat.mod_eq_of_lt (by simp only [envMax] at hd; omega)⟩))
  · rw [tick_decay c p n e h]
    by_cases hd : e.level.toNat < n * e.rate.toNat ∨ e.level.toNat - n * e.rate.toNat ≤ p.sustain.toNat
    · rw [tickDecay_clamp p n e hd]
      exact .inr (.inr (.inr (.inl ⟨rfl, hd, rfl, rfl, rfl⟩)))
    · rw [tickDecay_fall p n e (by omega) (by omega), h]
      exact .inr (.inr (.inr (.inr (.inl
        ⟨rfl, by omega, by omega, rfl, rfl, Nat.mod_eq_of_lt (by omega)⟩))))
  · exact .inl ⟨.inr rfl, tick_sustain c p n e h⟩
  · rw [tick_release c p n e h]
    by_cases hd : e.level.toNat ≤ n * e.rate.toNat
    · rw [tickRelease_clamp n e hd]
      exact .inr (.inr (.inr (.inr (.inr (.inl ⟨rfl, hd, rfl, rfl, rfl⟩)))))
    · rw [tickRelease_fall n e (by omega), h]
      exact .inr (.inr (.inr (.inr (.inr (.inr ⟨rfl, by omega, rfl, rfl, Nat.mod_eq_of_lt (by omega)⟩)))))

end Sys2Proof.Machine
end

