-- ==== Sys2Proof/Laws/Exec.lean ====
section
/-! SUPPORT. What a command can do, said once: with legal operands it has its effect and CP advances; with others it is
rejected with its range cause. The provers cite `exec_eq` instead of unfolding the meanings. -/

-- One theorem after another: side by side they would hold a thread each, and the memory of its stack.
set_option Elab.async false

namespace Sys2Proof.Machine

@[simp] theorem retire_eq (s : State) : retire s = .next s.advance := rfl

@[simp] theorem rejectInstr_eq (s : State) (c : RejectCause) (i : Instr) :
    rejectInstr s c i = .next (s.reject c (encode i)) := rfl

theorem writeParam_eq (legal : Bool) (written s : State) (i : Instr) :
    writeParam legal written s i = if legal then .next written.advance else .next (s.reject .valueRange (encode i)) := rfl

/-- The effect of a command with legal operands, without the advance of CP. -/
def effect (i : Instr) (s : State) : State :=
  match i with
  | .nop => s
  | .noteOn note _ => s.claimVoice (noteOfOperand note)
  | .noteOff note => s.releaseVoice (noteOfOperand note)
  | .ctrlAttack value => s.updateLayers ({ · with attack := value })
  | .ctrlDecay value => s.updateLayers ({ · with decay := value })
  | .ctrlSustain value => s.updateLayers ({ · with sustain := sustainOfValue value })
  | .ctrlRelease value => s.updateLayers ({ · with release := value })
  | .ctrlGain value => { s with masterGain := sevenBitOfValue value }
  | .layerShape layer value => s.updateLayer layer ({ · with shape := shapeOfValue value })
  | .layerAttack layer value => s.updateLayer layer ({ · with attack := value })
  | .layerDecay layer value => s.updateLayer layer ({ · with decay := value })
  | .layerSustain layer value => s.updateLayer layer ({ · with sustain := sustainOfValue value })
  | .layerRelease layer value => s.updateLayer layer ({ · with release := value })
  | .layerMix layer value => s.updateLayer layer ({ · with mix := sevenBitOfValue value })
  | .render count => s.fillSink count.toNat
  | .poll => s.pollState
  | .readReg addr => s.respond (regValue s addr)
  | .readWt shape index => s.respond (.ofInt 32 (memReadWt shape index.toNat))
  | .readPitch note => s.respond (memReadPitch s.cfg note.toNat)
  | .readEnvlut index => s.respond (memReadEnvlut s.cfg index.toNat)

/-- The range cause of a command (60_exceptions.md rule R373: no command has two). -/
def rangeCause : Instr → RejectCause
  | .noteOn _ _ => .noteRange
  | .noteOff _ => .noteRange
  | .readPitch _ => .noteRange
  | .render _ => .zeroCount
  | .readWt _ _ => .indexRange
  | .readEnvlut _ => .indexRange
  | _ => .valueRange

/-- The operand checks of the meanings agree with the well-formedness of the command. -/
theorem exec_eq (i : Instr) (s : State) :
    exec i s = if i.wf s.cfg then .next (effect i s).advance else .next (s.reject (rangeCause i) (encode i)) := by
  cases i <;> rfl

theorem exec_wf {i : Instr} {s : State} (h : i.wf s.cfg = true) : exec i s = .next (effect i s).advance := by
  simp [exec_eq, h]

theorem exec_not_wf {i : Instr} {s : State} (h : i.wf s.cfg = false) :
    exec i s = .next (s.reject (rangeCause i) (encode i)) := by
  simp [exec_eq, h]

/-- The two ways a command ends. -/
theorem exec_cases {i : Instr} {s t : State} (h : exec i s = .next t) :
    (i.wf s.cfg = true ∧ t = (effect i s).advance) ∨
      (i.wf s.cfg = false ∧ t = s.reject (rangeCause i) (encode i)) := by
  rw [exec_eq] at h
  cases hw : i.wf s.cfg <;> simp_all

/-- The two cases of a NOTE_OFF: no sounding voice holds the note, or one is released. -/
theorem releaseVoice_cases (s : State) (n : BitVec 7) :
    (s.findForNoteOff n = none ∧ s.releaseVoice n = s) ∨
      ∃ v, s.findForNoteOff n = some v ∧ s.releaseVoice n
        = { s with voices := s.voices.modify v (Voice.onActive s.patch (LayerEnv.releaseUnlessIdle s.cfg)) } := by
  unfold State.releaseVoice
  cases s.findForNoteOff n <;> simp

/-- The four cases of a POLL (47_mixer.md rule R341). -/
theorem pollState_cases (s : State) :
    (s.sinkReady = true ∧ s.lookaheadFull = true ∧ s.pollState = s.copyLookahead) ∨
      (s.sinkReady = true ∧ s.lookaheadFull = false ∧ s.pollState = s.fillSink s.cfg.blockLen) ∨
      (s.sinkReady = false ∧ s.lookaheadFull = false ∧ s.pollState = s.fillAhead) ∨
      (s.sinkReady = false ∧ s.lookaheadFull = true ∧ s.pollState = s.dropout) := by
  unfold State.pollState
  cases s.sinkReady <;> cases s.lookaheadFull <;> simp

/-- The three cases of a step: nothing presented, a command word, an assertion of reset. -/
theorem step_cases {s t : State} (h : step s = .next t) :
    (s.port = [] ∧ t = s) ∨
      (∃ w ready rest, s.port = .command w ready :: rest ∧ execWord w (s.consume ready rest) = .next t) ∨
      (∃ rest, s.port = .reset :: rest ∧ t = s.consumeReset rest) := by
  unfold step at h
  split at h
  · exact .inl ⟨‹_›, by simpa using h.symm⟩
  · exact .inr (.inl ⟨_, _, _, ‹_›, h⟩)
  · exact .inr (.inr ⟨_, ‹_›, by simpa using h.symm⟩)

end Sys2Proof.Machine
end

