-- ==== Sys2Proof/Laws/PerInstr.lean ====
section
/-! SUPPORT. A law per command: the opcode field of its encoded word is the one of its row (30_encoding.md rules R110,
R123). -/

-- One theorem after another: side by side they would hold a thread each, and the memory of its stack.
set_option Elab.async false

namespace Sys2Proof.Laws.OpcodeField

/-- Bits [31:28] of the encoded word are those of the row's match. -/
def Statement (i : Instr) : Prop := field (encode i) 28 4 = field i.opcodeMatch 28 4

theorem nop : Statement .nop := rfl

theorem noteOn (note : BitVec 8) (vel : BitVec 7) : Statement (.noteOn note vel) := by
  simp [Statement, encode, Instr.opcodeMatch, field]; omega

theorem noteOff (note : BitVec 8) : Statement (.noteOff note) := by
  simp [Statement, encode, Instr.opcodeMatch, field]; omega

theorem ctrlAttack (value : Index14) : Statement (.ctrlAttack value) := by
  simp [Statement, encode, encodeCtrl, Instr.opcodeMatch, field]; omega

theorem ctrlDecay (value : Index14) : Statement (.ctrlDecay value) := by
  simp [Statement, encode, encodeCtrl, Instr.opcodeMatch, field]; omega

theorem ctrlSustain (value : Index14) : Statement (.ctrlSustain value) := by
  simp [Statement, encode, encodeCtrl, Instr.opcodeMatch, field]; omega

theorem ctrlRelease (value : Index14) : Statement (.ctrlRelease value) := by
  simp [Statement, encode, encodeCtrl, Instr.opcodeMatch, field]; omega

theorem ctrlGain (value : Index14) : Statement (.ctrlGain value) := by
  simp [Statement, encode, encodeCtrl, Instr.opcodeMatch, field]; omega

theorem layerShape (layer : Fin 4) (value : Index14) : Statement (.layerShape layer value) := by
  simp [Statement, encode, encodeLayer, Instr.opcodeMatch, field]; omega

theorem layerAttack (layer : Fin 4) (value : Index14) : Statement (.layerAttack layer value) := by
  simp [Statement, encode, encodeLayer, Instr.opcodeMatch, field]; omega

theorem layerDecay (layer : Fin 4) (value : Index14) : Statement (.layerDecay layer value) := by
  simp [Statement, encode, encodeLayer, Instr.opcodeMatch, field]; omega

theorem layerSustain (layer : Fin 4) (value : Index14) : Statement (.layerSustain layer value) := by
  simp [Statement, encode, encodeLayer, Instr.opcodeMatch, field]; omega

theorem layerRelease (layer : Fin 4) (value : Index14) : Statement (.layerRelease layer value) := by
  simp [Statement, encode, encodeLayer, Instr.opcodeMatch, field]; omega

theorem layerMix (layer : Fin 4) (value : Index14) : Statement (.layerMix layer value) := by
  simp [Statement, encode, encodeLayer, Instr.opcodeMatch, field]; omega

theorem render (count : BitVec 16) : Statement (.render count) := by
  simp [Statement, encode, Instr.opcodeMatch, field]; omega

theorem poll : Statement .poll := rfl

theorem readReg (addr : BitVec 12) : Statement (.readReg addr) := by
  simp [Statement, encode, Instr.opcodeMatch, field]; omega

theorem readWt (shape : Wave) (index : BitVec 12) : Statement (.readWt shape index) := by
  have h := waveCode_lt shape
  simp [Statement, encode, Instr.opcodeMatch, field]; omega

theorem readPitch (note : BitVec 8) : Statement (.readPitch note) := by
  simp [Statement, encode, Instr.opcodeMatch, field]; omega

theorem readEnvlut (index : Index14) : Statement (.readEnvlut index) := by
  simp [Statement, encode, Instr.opcodeMatch, field]; omega

end Sys2Proof.Laws.OpcodeField
end

