-- ==== Sys2Proof/Tests/Slice0.lean ====
section
/-! SUPPORT. The model's own tests: ill-formed commands, words written out from the formats, single steps with results from
95_test_vectors.md (the section stands in each comment), and for every statement with hypotheses a state and operands that
meet them. -/

-- One theorem after another: side by side they would hold a thread each, and the memory of its stack.
set_option Elab.async false

namespace Sys2Proof.Tests

open Sys2Proof.Machine Sys2Proof.Claims

/-! ## Well-formedness: an ill-formed command for each check (30_encoding.md rule R124) -/

/-- The same parameters with 14-bit indices. -/
def wide : Config := { Config.vectors with envIndexBits := .bits14 }

theorem test_wf_note : (Instr.noteOn 128 100).wf Config.vectors = false ∧ (Instr.noteOn 127 100).wf Config.vectors = true
    ∧ (Instr.noteOff 128).wf Config.vectors = false ∧ (Instr.noteOff 127).wf Config.vectors = true
    ∧ (Instr.readPitch 128).wf Config.vectors = false ∧ (Instr.readPitch 127).wf Config.vectors = true := by decide

theorem test_wf_ctrl_index :
    (Instr.ctrlAttack 128).wf Config.vectors = false ∧ (Instr.ctrlAttack 127).wf Config.vectors = true ∧
    (Instr.ctrlDecay 128).wf Config.vectors = false ∧ (Instr.ctrlDecay 127).wf Config.vectors = true ∧
    (Instr.ctrlRelease 128).wf Config.vectors = false ∧ (Instr.ctrlRelease 127).wf Config.vectors = true ∧
    (Instr.ctrlAttack 128).wf wide = true ∧ (Instr.ctrlDecay 16383).wf wide = true := by decide

theorem test_wf_ctrl_seven :
    (Instr.ctrlSustain 128).wf wide = false ∧ (Instr.ctrlSustain 127).wf wide = true ∧
    (Instr.ctrlGain 128).wf wide = false ∧ (Instr.ctrlGain 127).wf wide = true := by decide

theorem test_wf_layer_index :
    (Instr.layerAttack 3 128).wf Config.vectors = false ∧ (Instr.layerAttack 3 127).wf Config.vectors = true ∧
    (Instr.layerDecay 3 128).wf Config.vectors = false ∧ (Instr.layerDecay 3 127).wf Config.vectors = true ∧
    (Instr.layerRelease 0 128).wf Config.vectors = false ∧ (Instr.layerRelease 0 128).wf wide = true := by decide

theorem test_wf_layer_seven :
    (Instr.layerShape 0 5).wf wide = false ∧ (Instr.layerShape 0 4).wf wide = true ∧
    (Instr.layerSustain 1 128).wf wide = false ∧ (Instr.layerSustain 1 127).wf wide = true ∧
    (Instr.layerMix 2 128).wf wide = false ∧ (Instr.layerMix 2 127).wf wide = true := by decide

theorem test_wf_count_and_index :
    (Instr.render 0).wf wide = false ∧ (Instr.render 1).wf wide = true ∧
    (Instr.readWt .sine 2049).wf wide = false ∧ (Instr.readWt .ramp 2048).wf wide = true ∧
    (Instr.readEnvlut 128).wf Config.vectors = false ∧ (Instr.readEnvlut 16383).wf wide = true := by decide

/-! ## Decoding: words written out from the formats of 30_encoding.md (rules R111 to R119) -/

/-- Z: opcode 0000, 28 zeros. -/
theorem test_decode_nop : decode 0b00000000000000000000000000000000 = .command .nop := by decide

/-- NV: opcode 0001, 13 zeros, VEL 1100100, NOTE 01000101. -/
theorem test_decode_noteOn : decode 0b00010000000000000110010001000101 = .command (.noteOn 69 100) := by decide

/-- N: opcode 0010, 20 zeros, NOTE 00111100. -/
theorem test_decode_noteOff : decode 0b00100000000000000000000000111100 = .command (.noteOff 60) := by decide

/-- C: opcode 0011, 0, TGT 000, 10 zeros, VALUE. -/
theorem test_decode_ctrlAttack : decode 0b00110000000000000000000001111111 = .command (.ctrlAttack 127) := by decide

/-- C: TGT 001. -/
theorem test_decode_ctrlDecay : decode 0b00110001000000000010000000000001 = .command (.ctrlDecay 8193) := by decide

/-- C: TGT 010. -/
theorem test_decode_ctrlSustain : decode 0b00110010000000000000000001000000 = .command (.ctrlSustain 64) := by decide

/-- C: TGT 011. -/
theorem test_decode_ctrlRelease : decode 0b00110011000000000000000000000000 = .command (.ctrlRelease 0) := by decide

/-- C: TGT 100. -/
theorem test_decode_ctrlGain : decode 0b00110100000000000000000001100100 = .command (.ctrlGain 100) := by decide

/-- L: opcode 0100, 00, LAYER 10, 0, PRM 000, 6 zeros, VALUE. -/
theorem test_decode_layerShape : decode 0b01000010000000000000000000000010 = .command (.layerShape 2 2) := by decide

/-- L: LAYER 11, PRM 001. -/
theorem test_decode_layerAttack : decode 0b01000011000100000000000000000000 = .command (.layerAttack 3 0) := by decide

/-- L: LAYER 01, PRM 010. -/
theorem test_decode_layerDecay : decode 0b01000001001000000000000001111111 = .command (.layerDecay 1 127) := by decide

/-- L: LAYER 00, PRM 011. -/
theorem test_decode_layerSustain : decode 0b01000000001100000000000000000001 = .command (.layerSustain 0 1) := by decide

/-- L: LAYER 00, PRM 100. -/
theorem test_decode_layerRelease : decode 0b01000000010000000000000010000000 = .command (.layerRelease 0 128) := by decide

/-- L: LAYER 01, PRM 101. -/
theorem test_decode_layerMix : decode 0b01000001010100000000000001000000 = .command (.layerMix 1 64) := by decide

/-- R: opcode 0101, 12 zeros, COUNT. -/
theorem test_decode_render : decode 0b01010000000000001111111111111111 = .command (.render 65535) := by decide

/-- Z: opcode 0110, 28 zeros. -/
theorem test_decode_poll : decode 0b01100000000000000000000000000000 = .command .poll := by decide

/-- A: opcode 0111, 16 zeros, ADDR. -/
theorem test_decode_readReg : decode 0b01110000000000000000000100001001 = .command (.readReg 0x109) := by decide

/-- W: opcode 1000, 14 zeros, SHAPE 11, INDEX. -/
theorem test_decode_readWt : decode 0b10000000000000000011011111111111 = .command (.readWt .ramp 2047) := by decide

/-- N: opcode 1001. -/
theorem test_decode_readPitch : decode 0b10010000000000000000000001000101 = .command (.readPitch 69) := by decide

/-- E: opcode 1010, 14 zeros, INDEX. -/
theorem test_decode_readEnvlut : decode 0b10100000000000000011111111111111 = .command (.readEnvlut 16383) := by decide

/-- A bit that a format defines as zero, in every format (95_test_vectors.md section 2.1). -/
theorem test_decode_reserved_bits :
    ([0x00000001, 0x1000C045, 0x20000145, 0x38000000, 0x30004000, 0x40800000, 0x44000000, 0x40008000, 0x50010000,
      0x60000001, 0x70001000, 0x80004000, 0x90000100, 0xA0004000, 0x3F000000, 0x40004005] : List Word).all
      (fun w => decode w = .reject .reservedBits) = true := by decide +kernel

/-- Reserved selectors and reserved opcodes (section 2.1). -/
theorem test_decode_reserved_selectors_and_opcodes :
    ([0x35000000, 0x36000000, 0x37000080, 0x40600000, 0x43700001] : List Word).all
      (fun w => decode w = .reject .reservedSelector) = true ∧
    ([0xB0000000, 0xC0000000, 0xD0000000, 0xE0000000, 0xFFFFFFFF] : List Word).all
      (fun w => decode w = .reject .reservedOpcode) = true := by decide +kernel

/-- The host's two entry points: a table word, and the word presented to the first step. -/
theorem test_decodeTableWord : decodeTableWord 32 0x10006445 = some (.noteOn 69 100) ∧
    decodeTableWord 32 0xB0000000 = none := by decide

/-! ## Single steps -/

/-- The state after one step. -/
def after (s : State) : State :=
  match step s with
  | .next t => t
  | .fault _ => s
  | .refused _ => s

/-- The state after the word `w` is presented, with `sink_ready` as it stands. -/
def after1 (s : State) (w : Word) : State := after (s.withFetchWord 32 w.toNat)

/-- The state after the command `i` with legal operands. -/
def ran (i : Instr) (s : State) : State := (effect i s).advance

/-- Reset, with the sink ready. -/
def ready : State := { State.reset with sinkReady := true }

/-- NOTE_ON 69, 100 from reset. -/
def playing : State := after1 State.reset 0x10006445

/-- One layer envelope replaced. -/
def withEnv (v : Fin 8) (l : Fin 4) (e : LayerEnv) (s : State) : State :=
  { s with voices := s.voices.modify v fun x => { x with env := x.env.modify l fun _ => e } }

/-- A layer in a given state on voice 0, layer 0. -/
def layer00 (st : EnvState) (level rate : Word) : State := withEnv 0 0 ⟨st, level, rate⟩ State.reset

/-- Every active layer of every voice in ATTACK, with the timestamps 10, 9, 7, 8, 7, 12, 13, 14. -/
def busy : State :=
  { State.reset with
    voices := Eight.ofFn fun v =>
      { Voice.reset with
        note := 60, ts := ([10, 9, 7, 8, 7, 12, 13, 14] : List Word64).getD v.val 0
        env := Four.ofFn fun _ => ⟨.attack, 5, 1⟩ } }

/-- Section 2.1: CP + 1 only. -/
theorem test_nop : after1 State.reset 0x00000000 = { State.reset with cp := 1 } := by decide +kernel

/-- Section 2.6: NOTE_ON 69, 100 claims voice 0. -/
theorem test_noteOn : (playing.voices.get 0).note = 69 ∧ (playing.voices.get 0).tune = 42852281 ∧
    (playing.voices.get 0).ts = 0 ∧ playing.env 0 0 = ⟨.attack, 0, 91382282⟩ ∧
    playing.env 0 1 = ⟨.idle, 0, 0⟩ := by decide +kernel

/-- Section 2.6: a second NOTE_ON of the same note claims voice 1. -/
theorem test_noteOn_again : ((after1 playing 0x10006445).voices.get 1).note = 69 ∧
    (after1 playing 0x10006445).env 1 0 = ⟨.attack, 0, 91382282⟩ ∧
    (after1 playing 0x10006445).voices.get 0 = playing.voices.get 0 := by decide +kernel

/-- Section 2.5: EnvNoteOff from ATTACK at level 9739 with release 127 gives rate 0. -/
theorem test_noteOff : (after1 (layer00 .attack 9739 9739) 0x20000000).env 0 0 = ⟨.release, 9739, 0⟩ := by decide +kernel

/-- Section 2.6: NOTE_OFF of a note no voice holds has no effect. -/
theorem test_noteOff_unmatched : after1 State.reset 0x20000032 = { State.reset with cp := 1 } := by decide +kernel

/-- Section 2.7. -/
theorem test_ctrlAttack : ∀ l, ((after1 State.reset 0x3000007F).patch.get l).attack = 127 := by decide +kernel

theorem test_ctrlDecay : ∀ l, ((after1 State.reset 0x31000000).patch.get l).decay = 0 := by decide +kernel

theorem test_ctrlSustain : ∀ l, ((after1 State.reset 0x32000040).patch.get l).sustain = 0x81020407 := by decide +kernel

theorem test_ctrlRelease : ∀ l, ((after1 State.reset 0x33000000).patch.get l).release = 0 := by decide +kernel

theorem test_ctrlGain : (after1 State.reset 0x34000064).masterGain = 100 := by decide +kernel

/-- Section 2.1: CTRL_GAIN 128 is rejected with cause 5 and writes no gain. -/
theorem test_ctrlGain_rejected : (after1 State.reset 0x34000080).masterGain = 127 ∧
    (after1 State.reset 0x34000080).rejectCause = .valueRange ∧
    (after1 State.reset 0x34000080).rejectWord = 0x34000080 := by decide +kernel

theorem test_layerShape : ((after1 State.reset 0x42000002).patch.get 2).shape = some .triangle ∧
    ((after1 State.reset 0x40000004).patch.get 0).shape = none := by decide +kernel

theorem test_layerAttack : ((after1 State.reset 0x43100000).patch.get 3).attack = 0 ∧
    ((after1 State.reset 0x43100000).patch.get 2).attack = 1 := by decide +kernel

theorem test_layerDecay : ((after1 State.reset 0x4120007F).patch.get 1).decay = 127 := by decide +kernel

theorem test_layerSustain : ((after1 State.reset 0x40300000).patch.get 0).sustain = 0 := by decide +kernel

/-- Section 2.7: LAYER_RELEASE 0, 128 with 14-bit indices. -/
theorem test_layerRelease :
    ((after1 (State.resetWith wide) 0x40400080).patch.get 0).release = 128 := by decide +kernel

theorem test_layerMix : ((after1 State.reset 0x41500040).patch.get 1).mix = 64 := by decide +kernel

/-- Section 2.8: the first block after NOTE_ON 69, 100. -/
theorem test_render : (after1 playing 0x50000004).sinkOut = [[⟨0, 0⟩, ⟨21, 21⟩, ⟨87, 87⟩, ⟨195, 195⟩]] ∧
    (after1 playing 0x50000004).peak = 195 ∧ ((after1 playing 0x50000004).voices.get 0).phase = 171409124 ∧
    ((after1 playing 0x50000004).env 0 0).level = 365529128 := by decide +kernel

/-- Section 3.3, commands 1 and 3: the empty buffer is filled, the full one is emitted. -/
theorem test_poll_fill : (after1 playing 0x60000000).lookahead = [⟨0, 0⟩, ⟨21, 21⟩, ⟨87, 87⟩, ⟨195, 195⟩] ∧
    (after1 playing 0x60000000).lookaheadFull = true ∧ (after1 playing 0x60000000).sinkOut = [] := by decide +kernel

/-- Section 2.9: full and not ready, a dropout; full and ready, the stored block. -/
theorem test_poll_full : (after1 { State.reset with lookaheadFull := true } 0x60000000).dropoutCount = 1 ∧
    (after1 { ready with lookaheadFull := true } 0x60000000).sinkOut = [List.replicate 4 ⟨0, 0⟩] ∧
    (after1 { ready with lookaheadFull := true } 0x60000000).sampleCounter = 0 := by decide +kernel

/-- Section 2.10. -/
theorem test_readReg : (after1 State.reset 0x70000007).respOut = [0x00007408] ∧
    (after1 State.reset 0x70000013).respOut = [0x7FFFFFFF] ∧
    (after1 State.reset 0x70000018).respOut = [4] := by decide +kernel

/-- The codes of READ_REG 0x010, 0x108 and 0x00A: section 2.10; sections 3.1 (command 4) and 3.4 (command 26); the codes of
10_state.md rule R41 that no program of section 3 reads. -/
theorem test_readReg_codes : (after1 State.reset 0x70000010).respOut = [0] ∧
    (after1 { State.reset with rejectCause := .indexRange } 0x7000000A).respOut = [7] ∧
    ([.idle, .attack, .decay, .sustain, .release] : List EnvState).map
      (fun e => (after1 (layer00 e 9 1) 0x70000108).respOut) = [[0], [1], [2], [3], [4]] := by decide +kernel

/-- Section 2.2: sign-extended. -/
theorem test_readWt : (after1 State.reset 0x80001600).respOut = [0xFFFFD2EA] ∧
    (after1 State.reset 0x80003001).respOut = [0x00001246] := by decide +kernel

/-- Section 2.3. -/
theorem test_readPitch : (after1 State.reset 0x90000045).respOut = [0x028DDFB9] ∧
    (after1 State.reset 0x9000007F).respOut = [0x48D12253] := by decide +kernel

/-- Section 2.1, both index widths. -/
theorem test_readEnvlut : (after1 State.reset 0xA0000005).respOut = [0x0000003F] ∧
    (after1 (State.resetWith wide) 0xA0000005).respOut = [0x0000002C] := by decide +kernel

/-- Section 2.1, the precedence of two causes. -/
theorem test_reject_precedence : (after1 State.reset 0x37000080).rejectCause = .reservedSelector ∧
    (after1 State.reset 0x40004005).rejectCause = .reservedBits ∧
    (after1 State.reset 0xB0000000).rejectCause = .reservedOpcode := by decide +kernel

/-- Section 2.4: the floor of the interpolation. -/
theorem test_oscillator : oscSample 0x40100000 .sine = 16382 ∧ oscSample 0xFFFFFFFF .ramp = -1 ∧
    oscSample 0x3FF00000 .square = 11544 ∧ oscSample 0x20000000 .triangle = 10032 := by decide +kernel

/-- Section 2.8. -/
theorem test_scale : scaleLayer (-16383) 0xFFFFFFFF 64 = -8256 ∧ scaleLayer (-1) 1 127 = -1 ∧
    scaleLayer (-100) 0x7FFFFFFF 127 = -50 ∧ scaleGain (-3) 100 = -2 ∧
    sat16 (scaleGain (-751616) 127) = -32768 := by decide

/-- Section 2.5: the ticks that clamp. -/
theorem test_ticks :
    LayerEnv.tick Config.vectors (PatchLayer.reset 0) 1 ⟨.attack, 4294967254, 91382282⟩ = ⟨.decay, 0xFFFFFFFF, 34087042⟩ ∧
    LayerEnv.tick Config.vectors (PatchLayer.reset 0) 1 ⟨.decay, 2147483649, 34087042⟩ = ⟨.sustain, 0x7FFFFFFF, 34087042⟩ ∧
    LayerEnv.tick Config.vectors (PatchLayer.reset 0) 1 ⟨.release, 1459, 4869⟩ = ⟨.idle, 0, 4869⟩ := by decide +kernel

/-- Section 2.5: the batch tick discards what is left of the batch, single ticks do not. -/
theorem test_batch_tick :
    LayerEnv.tick Config.vectors (PatchLayer.reset 0) 100 ⟨.attack, 0, 91382282⟩ = ⟨.decay, 0xFFFFFFFF, 34087042⟩ ∧
    (LayerEnv.tick Config.vectors (PatchLayer.reset 0) 1)^[100] ⟨.attack, 0, 91382282⟩
      = ⟨.decay, 2522441111, 34087042⟩ := by decide +kernel

/-- NOTE_ON 69, 100 from reset, in PER_BLOCK mode. -/
def playingPerBlock : State := after1 (State.resetWith { Config.vectors with envTickMode := .perBlock }) 0x10006445

/-- 47_mixer.md rule R344: in PER_BLOCK mode a block of zeros, then one batch tick of four. -/
theorem test_render_per_block : (after1 playingPerBlock 0x50000004).sinkOut = [List.replicate 4 ⟨0, 0⟩] ∧
    (after1 playingPerBlock 0x50000004).env 0 0 = ⟨.attack, 365529128, 91382282⟩ := by decide +kernel

/-! ## Witnesses: a state and operands that meet all hypotheses of each statement that has some -/

/-- A command with legal operands answers the next state `ran i s`. -/
theorem exec_ran {i : Instr} {s : State} (h : i.wf s.cfg = true) : exec i s = .next (ran i s) := exec_wf h

theorem test_witness_EncodeOfDecodedWordIsTheWord : decode 0x43500000 = .command (.layerMix 3 0) := by decide

/-- A row's own word, a word that is no row's, and both ends of the reserved opcodes. -/
theorem test_witness_DecoderFollowsOpcodeMap :
    (0x10006445 : Word) &&& (Instr.noteOn 0 0).opcodeMask = (Instr.noteOn 0 0).opcodeMatch ∧
    (0x1000C045 : Word) &&& (Instr.noteOn 0 0).opcodeMask ≠ (Instr.noteOn 0 0).opcodeMatch ∧
    0xB ≤ bitsOf 0xB0000000 28 4 ∧ 0xB ≤ bitsOf 0xFFFFFFFF 28 4 := by decide

/-- Every cause, a range cause at the first illegal value (95_test_vectors.md section 2.1). -/
theorem test_witness_RejectedWordIsRecordedAndHasNoOtherEffect :
    (State.reset.present 0xB0000000).port = .command 0xB0000000 false :: [] ∧
    causeOf Config.vectors 0xB0000000 = some .reservedOpcode ∧ causeOf Config.vectors 0x3F000000 = some .reservedBits ∧
    causeOf Config.vectors 0x37000080 = some .reservedSelector ∧ causeOf Config.vectors 0x40600000 = some .reservedSelector ∧
    causeOf Config.vectors 0x10000080 = some .noteRange ∧ causeOf Config.vectors 0x20000080 = some .noteRange ∧
    causeOf Config.vectors 0x90000080 = some .noteRange ∧ causeOf Config.vectors 0x30000080 = some .valueRange ∧
    causeOf Config.vectors 0x32000080 = some .valueRange ∧ causeOf Config.vectors 0x40000005 = some .valueRange ∧
    causeOf Config.vectors 0x50000000 = some .zeroCount ∧ causeOf Config.vectors 0x80000801 = some .indexRange ∧
    causeOf Config.vectors 0xA0000080 = some .indexRange := by decide +kernel

/-- Accepted words at the last legal value. -/
theorem test_witness_WordWithoutCauseExecutes :
    (State.reset.present 0x1000007F).port = .command 0x1000007F false :: [] ∧ causeOf Config.vectors 0x1000007F = none ∧
    causeOf Config.vectors 0x3000007F = none ∧ causeOf wide 0x30003FFF = none ∧ causeOf Config.vectors 0x40000004 = none ∧
    causeOf Config.vectors 0x50000001 = none ∧ causeOf Config.vectors 0x80003800 = none ∧
    causeOf wide 0xA0003FFF = none := by decide +kernel

theorem test_witness_StepRunsTheDecodedCommand :
    (State.reset.present 0x5000FFFF).port = .command 0x5000FFFF false :: [] ∧
      decode 0x5000FFFF = .command (.render 65535) := by decide +kernel

theorem test_witness_StepWithNothingPresentedHolds : State.reset.port = [] := rfl

theorem test_witness_ResetInputRestoresTheResetState :
    ({ playing with port := [.reset, .command 0 true] } : State).port = .reset :: [.command 0 true] ∧
    step { playing with port := [.reset] } = .next State.reset := ⟨rfl, rfl⟩

/-- An executed and a rejected word. -/
theorem test_witness_EveryWordAdvancesCpByOne :
    (∃ t, step (State.reset.present 0) = .next t ∧ t.cp = 1) ∧
    ∃ t, step (State.reset.present 0xFFFFFFFF) = .next t ∧ t.cp = 1 := ⟨⟨_, rfl, rfl⟩, ⟨_, rfl, rfl⟩⟩

/-- A command that emits a block, and one that responds. -/
theorem test_witness_OutputStreamsOnlyGrow :
    (∃ t, exec (.render 1) State.reset = .next t ∧ t.sinkOut = [[⟨0, 0⟩]]) ∧
    ∃ t, exec (.readReg 0) State.reset = .next t ∧ t.respOut = [127] :=
  ⟨⟨_, exec_ran (by decide), by decide +kernel⟩, ⟨_, exec_ran (by decide), by decide +kernel⟩⟩

theorem test_witness_ParametersNeverChange : ∃ t, step (State.reset.present 0x50000001) = .next t := ⟨_, rfl⟩

/-- Every register of the statement changed by a command that may change it. -/
theorem test_witness_OnlyTheNamedCommandsWrite_patch :
    ((ran (.layerShape 1 0) State.reset).patch.get 1).shape ≠ (State.reset.patch.get 1).shape ∧
    ((ran (.ctrlAttack 0) State.reset).patch.get 3).attack ≠ (State.reset.patch.get 3).attack ∧
    ((ran (.layerAttack 2 127) State.reset).patch.get 2).attack ≠ (State.reset.patch.get 2).attack ∧
    ((ran (.ctrlDecay 0) State.reset).patch.get 0).decay ≠ (State.reset.patch.get 0).decay ∧
    ((ran (.layerDecay 0 0) State.reset).patch.get 0).decay ≠ (State.reset.patch.get 0).decay ∧
    ((ran (.ctrlSustain 127) State.reset).patch.get 0).sustain ≠ (State.reset.patch.get 0).sustain ∧
    ((ran (.layerSustain 3 0) State.reset).patch.get 3).sustain ≠ (State.reset.patch.get 3).sustain ∧
    ((ran (.ctrlRelease 0) State.reset).patch.get 1).release ≠ (State.reset.patch.get 1).release ∧
    ((ran (.layerRelease 1 0) State.reset).patch.get 1).release ≠ (State.reset.patch.get 1).release ∧
    ((ran (.layerMix 1 0) State.reset).patch.get 1).mix ≠ (State.reset.patch.get 1).mix ∧
    (ran (.ctrlGain 0) State.reset).masterGain ≠ State.reset.masterGain := by decide +kernel

theorem test_witness_OnlyTheNamedCommandsWrite_voices :
    ((ran (.noteOn 69 0) State.reset).voices.get 0).note ≠ (State.reset.voices.get 0).note ∧
    ((ran (.render 1) playing).voices.get 0).phase ≠ (playing.voices.get 0).phase ∧
    ((ran .poll playing).voices.get 0).phase ≠ (playing.voices.get 0).phase ∧
    (ran (.noteOff 69) playing).env 0 0 ≠ playing.env 0 0 ∧ (ran (.render 1) playing).env 0 0 ≠ playing.env 0 0 ∧
    (ran .poll playing).env 0 0 ≠ playing.env 0 0 ∧ (ran (.render 2) playing).peak ≠ playing.peak ∧
    (ran .poll playing).sampleCounter ≠ playing.sampleCounter ∧
    (ran .poll { playing with lookaheadFull := true }).dropoutCount ≠ playing.dropoutCount ∧
    (ran .poll playing).lookaheadFull ≠ playing.lookaheadFull ∧ (ran .poll playing).lookahead ≠ playing.lookahead := by
  decide +kernel

/-- A rejection, and a READ_REG. -/
theorem test_witness_OnlyTheNamedCommandsWrite_rest :
    (∃ t, exec (.render 0) State.reset = .next t ∧ (Instr.render 0).wf State.reset.cfg = false ∧
      t.rejectCount ≠ State.reset.rejectCount ∧ t.rejectCause ≠ State.reset.rejectCause ∧
      t.rejectWord ≠ State.reset.rejectWord) ∧
    ∃ t, exec (.readReg 0xFFF) State.reset = .next t :=
  ⟨⟨_, exec_not_wf (by decide), by decide +kernel⟩, ⟨_, exec_ran (by decide)⟩⟩

/-- An inactive layer, and the command that makes it active. -/
theorem test_witness_InactiveLayersAreHeld :
    (∃ t, exec (.layerShape 1 3) (withEnv 2 1 ⟨.release, 9, 1⟩ State.reset) = .next t) ∧
    ((withEnv 2 1 ⟨.release, 9, 1⟩ State.reset).patch.get 1).shape = none ∧
    ∃ t, exec (.render 5) (withEnv 2 1 ⟨.release, 9, 1⟩ State.reset) = .next t :=
  ⟨⟨_, exec_ran (by decide)⟩, rfl, ⟨_, exec_ran (by decide)⟩⟩

/-- Two states that differ in an inactive layer's envelope. -/
theorem test_witness_InactiveLayersAreNotRead :
    (∀ a, Instr.render 3 ≠ .readReg a) ∧ agreeOutside busy busy (withEnv 2 1 ⟨.release, 9, 1⟩ busy) ∧
    busy ≠ withEnv 2 1 ⟨.release, 9, 1⟩ busy := by
  refine ⟨by simp, ?_, by decide +kernel⟩
  simp only [agreeOutside, isActive]
  decide +kernel

/-- Every transition of the state machine, each by the command the statement names. -/
theorem test_witness_NoOtherEnvelopeTransition :
    ((ran (.noteOn 60 1) State.reset).env 0 0).state = .attack ∧
    ((ran (.noteOff 0) (layer00 .attack 5 1)).env 0 0).state = .release ∧
    ((ran (.noteOff 60) busy).env 2 0).state = .release ∧
    ((ran (.render 1) (layer00 .attack 0xFFFFFFFE 1)).env 0 0).state = .decay ∧
    ((ran (.render 2) { layer00 .attack 0xFFFFFFFE 1 with
      patch := Four.ofFn fun l => { PatchLayer.reset l with sustain := 0xFFFFFFFF } }).env 0 0).state = .sustain ∧
    ((ran .poll (layer00 .decay 0x80000000 1)).env 0 0).state = .sustain ∧
    ((ran (.render 1) (layer00 .release 1 1)).env 0 0).state = .idle := by decide +kernel

/-- The reset state with a command presented is sound, and steps. -/
theorem test_witness_EveryStepKeepsTheInvariant :
    (State.reset.present 0x10006445).Inv ∧ ∃ t, step (State.reset.present 0x10006445) = .next t := by
  refine ⟨⟨by decide +kernel, by decide +kernel, ?_, ?_, ?_, ?_⟩, ⟨_, rfl⟩⟩
  · unfold State.patchLegal; decide +kernel
  · unfold State.idleSilent; decide +kernel
  · unfold State.peakBounded; decide +kernel
  · unfold State.outputDuplicated duplicated; decide +kernel

theorem test_witness_ResetStateMeetsTheInvariant :
    Config.vectors.wf = true ∧ ({ Config.vectors with sampleRate := 12544, blockLen := 65535 } : Config).wf = true ∧
    ({ wide with sampleRate := 429496728, blockLen := 1 } : Config).wf = true := by decide

/-- An empty buffer with a POLL presented: the step fills it, and the later state is the same. -/
theorem test_witness_LookaheadIsUnobservableWhileEmpty :
    (playing.present 0x60000000).lookaheadFull = false ∧ (after (playing.present 0x60000000)).lookaheadFull = true := by
  decide +kernel

theorem test_witness_SampleCounterCountsSynthesizedSamples :
    ∃ t, exec (.render 65535) State.reset = .next t := ⟨_, exec_ran (by decide)⟩

/-- The stuck RELEASE of 95_test_vectors.md program P5, under a RENDER; ATTACK and DECAY at their bounds. -/
theorem test_witness_StuckEnvelopeStaysUntilANoteCommand :
    (∃ t, exec (.render 3) (layer00 .release 9739 0) = .next t) ∧ ((layer00 .release 9739 0).env 0 0).rate = 0 ∧
    (((layer00 .release 9739 0).env 0 0).state = .release ∧ ((layer00 .release 9739 0).env 0 0).level ≠ 0) ∧
    (((layer00 .attack 0xFFFFFFFE 0).env 0 0).state = .attack ∧
      ((layer00 .attack 0xFFFFFFFE 0).env 0 0).level.toNat < 2 ^ 32 - 1) ∧
    (((layer00 .decay 0x80000000 0).env 0 0).state = .decay ∧
      ((layer00 .decay 0x80000000 0).env 0 0).level.toNat > (State.reset.patch.get 0).sustain.toNat) ∧
    (∀ n k, Instr.render 3 ≠ .noteOn n k) ∧ ∀ n, Instr.render 3 ≠ .noteOff n := by
  refine ⟨⟨_, exec_ran (by decide)⟩, by decide +kernel, by decide +kernel, by decide +kernel, by decide +kernel, ?_, ?_⟩ <;>
    simp

/-- The least and the largest COUNT, and both tick modes on an active layer (95_test_vectors.md sections 1.3 and 2.5, and
rule R344): the levels after 47 samples, and after a block of 4. -/
theorem test_witness_RenderEmitsOneBlock : 1 ≤ (1 : BitVec 16).toNat ∧ 1 ≤ (65535 : BitVec 16).toNat ∧
    0 < (1 : BitVec 16).toNat ∧ envAfterBlock playing 47 0 0 = ⟨.attack, 4294967254, 91382282⟩ ∧
    envAfterBlock playingPerBlock 4 0 0 = ⟨.attack, 365529128, 91382282⟩ ∧
    envAtSample playingPerBlock 3 0 0 = ⟨.attack, 0, 91382282⟩ := by decide +kernel

theorem test_witness_RenderInTwoPartsIsRenderWhole :
    State.reset.cfg.envTickMode = .perSample ∧ 1 ≤ (1 : BitVec 16).toNat ∧ 1 ≤ (65534 : BitVec 16).toNat ∧
    (1 : BitVec 16).toNat + (65534 : BitVec 16).toNat ≤ 65535 := by decide

/-- The four cases. -/
theorem test_witness_PollFollowsTheLookaheadMachine :
    (({ ready with lookaheadFull := true } : State).sinkReady = true ∧
      ({ ready with lookaheadFull := true } : State).lookaheadFull = true) ∧
    (({ State.reset with lookaheadFull := true } : State).sinkReady = false ∧
      ({ State.reset with lookaheadFull := true } : State).lookaheadFull = true) ∧
    (ready.sinkReady = true ∧ ready.lookaheadFull = false ∧ 1 ≤ ready.cfg.blockLen ∧ ready.cfg.blockLen ≤ 65535) ∧
    State.reset.sinkReady = false ∧ State.reset.lookaheadFull = false ∧ 1 ≤ State.reset.cfg.blockLen ∧
    State.reset.cfg.blockLen ≤ 65535 := by decide

/-- A dropout whose counter wraps. -/
theorem test_witness_DropoutOnlyCounts :
    ({ State.reset with lookaheadFull := true, dropoutCount := 0xFFFFFFFF } : State).sinkReady = false ∧
    (ran .poll { State.reset with lookaheadFull := true, dropoutCount := 0xFFFFFFFF }).dropoutCount = 0 := by
  decide +kernel

theorem test_witness_FillAheadThenCopyIsRender :
    playing.sinkReady = false ∧ playing.lookaheadFull = false ∧ 1 ≤ playing.cfg.blockLen ∧
    playing.cfg.blockLen ≤ 65535 := by decide +kernel

theorem test_witness_PeakIsTheLargestMagnitudeOfTheBlock :
    1 ≤ (4 : BitVec 16).toNat ∧ 3 < (4 : BitVec 16).toNat ∧ blockSample playing 3 = 195 := by decide +kernel

/-- A phase whose fraction is 0. -/
theorem test_witness_OscillatorLiesBetweenItsEntries : (0xFFE00000 : Word).toNat % 2 ^ 21 = 0 := by decide

theorem test_witness_MixIsBounded : 1 ≤ (1 : BitVec 16).toNat ∧ ∃ t, exec (.render 1) playing = .next t :=
  ⟨by decide, ⟨_, exec_ran (by decide +kernel)⟩⟩

theorem test_witness_RateIsTheFlooredQuotient : (2 ^ 32 - 1 ≤ 2 ^ 32 - 1 ∧ 1 ≤ 1) ∧ Config.vectors.envRateMin = 0 := by
  decide

/-- Each clause at the values where it meets its neighbour. -/
theorem test_witness_TickOfEachState :
    (0xFFFFFFFE + 1 * 1 ≥ 2 ^ 32 - 1) ∧ (0xFFFFFFFD + 1 * 1 < 2 ^ 32 - 1) ∧
    (3 * 1 > 2 ∨ 2 - 3 * 1 ≤ 0) ∧ (7 - 2 * 1 ≤ 5) ∧ (2 * 1 ≤ 8 ∧ 8 - 2 * 1 > 5) ∧ (4 * 2 ≥ 8) ∧ (4 * 2 < 9) := by decide

/-- A layer that stays in each state over a RENDER, and one that falls to IDLE. -/
theorem test_witness_LevelsAreMonotonicOverARender :
    ((ran (.render 1) (layer00 .attack 5 1)).env 0 0).state = .attack ∧
    ((ran (.render 1) (layer00 .decay 0xFFFFFFFF 1)).env 0 0).state = .decay ∧
    ((ran (.render 1) (layer00 .release 5 1)).env 0 0).state = .release ∧
    ((ran (.render 1) (layer00 .release 1 1)).env 0 0).state = .idle ∧
    ((ran (.render 1) (layer00 .sustain 5 1)).env 0 0).state = .sustain ∧
    ((ran (.render 1) State.reset).env 0 0).state = .idle := by decide +kernel

/-- A batch in which no transition fires, and one period more, in which one does (95_test_vectors.md section 2.5). -/
theorem test_witness_BatchTickIsRepeatedTick :
    (LayerEnv.tick Config.vectors (PatchLayer.reset 0) 47 ⟨.attack, 0, 91382282⟩).state = .attack ∧
    (LayerEnv.tick Config.vectors (PatchLayer.reset 0) 48 ⟨.attack, 0, 91382282⟩).state ≠ .attack := by decide +kernel

theorem test_witness_PositiveRatesEndEveryStage :
    ({ Config.vectors with envRateMin := 1 } : Config).envRateMin = 1 ∧ 1 ≤ (1 : Word).toNat ∧
    ((layer00 .attack 0 1).env 0 0).state = .attack ∧ ((layer00 .decay 9 1).env 0 0).state = .decay ∧
    ((layer00 .release 9 1).env 0 0).state = .release := by decide +kernel

/-- Both cases: reset has a free voice, the busy pool has none and its oldest voice is the first of two equals. -/
theorem test_witness_FindNextIsFirstFreeElseOldest :
    isFree State.reset State.reset.findNext ∧ State.reset.findNext = 0 ∧ (∀ u, ¬ isFree busy u) ∧ busy.findNext = 2 := by
  simp only [isFree, isActive]
  decide +kernel

theorem test_witness_FindForNoteOffIsOldestSoundingHolder :
    busy.findForNoteOff 60 = some 2 ∧ holds busy 60 2 ∧ busy.findForNoteOff 61 = none ∧ ∀ v, ¬ holds busy 61 v := by
  simp only [holds, isSounding, isActive]
  decide +kernel

/-- The largest legal note, on a block that has active and inactive layers. -/
theorem test_witness_NoteOnClaimsTheNextVoice :
    (127 : BitVec 8).toNat ≤ 127 ∧ isActive busy 0 ∧ ¬ isActive busy 1 ∧ (3 : Fin 8) ≠ busy.findNext := by
  simp only [isActive]
  decide +kernel

theorem test_witness_NoteOffReleasesTheSelectedVoice :
    (60 : BitVec 8).toNat ≤ 127 ∧ busy.findForNoteOff (BitVec.ofNat 7 (60 : BitVec 8).toNat) = some 2 ∧
    (isActive busy 0 ∧ (busy.env 2 0).state ≠ .idle) ∧ ¬ isActive busy 1 ∧ (3 : Fin 8) ≠ 2 ∧
    busy.findForNoteOff (BitVec.ofNat 7 (127 : BitVec 8).toNat) = none := by
  simp only [isActive]
  decide +kernel

theorem test_witness_NextNoteOnClaimsAnotherFreeVoice :
    (69 : BitVec 8).toNat ≤ 127 ∧ isActive State.reset 0 ∧ (5 : Fin 8) ≠ State.reset.findNext ∧ isFree State.reset 5 ∧
    ∃ t, exec (.noteOn 69 100) State.reset = .next t := by
  refine ⟨by decide, ?_, by decide +kernel, ?_, ⟨_, exec_ran (by decide)⟩⟩
  · simp only [isActive]; decide +kernel
  · simp only [isFree, isActive]; decide +kernel

/-- LAYER_SHAPE 0, inactive from reset (95_test_vectors.md section 2.6). -/
theorem test_witness_AllLayersInactive :
    (∀ l, ¬ isActive (after1 State.reset 0x40000004) l) ∧ (127 : BitVec 8).toNat ≤ 127 ∧ (1 : Fin 8) ≠ 0 := by
  simp only [isActive]
  decide +kernel

/-- Both bounds: the last 7-bit and the last 14-bit index, the last 7-bit value. -/
theorem test_witness_ControllersWriteAllLayers :
    (127 : Index14).toNat ≤ State.reset.cfg.envMaxIndex ∧ (16383 : Index14).toNat ≤ (State.resetWith wide).cfg.envMaxIndex ∧
    (127 : Index14).toNat ≤ 127 := by decide

theorem test_witness_ControllerGainWritesTheGain : (127 : Index14).toNat ≤ 127 ∧ (0 : Index14).toNat ≤ 127 := by decide

theorem test_witness_LayerCommandsWriteOneLayer :
    (4 : Index14).toNat ≤ 4 ∧ (127 : Index14).toNat ≤ State.reset.cfg.envMaxIndex ∧ (127 : Index14).toNat ≤ 127 ∧
    (1 : Fin 4) ≠ 0 := by decide

theorem test_witness_SustainMap : (126 < 127 ∧ 127 ≤ 127) ∧ susMap 126 = 0xFDFBF7EE := by decide

theorem test_witness_MuteAndUnmuteResumes : (State.reset.patch.get 0).shape = some .sine := rfl

theorem test_witness_ReadsRespondAndWriteNothingElse :
    (2048 : BitVec 12).toNat ≤ 2048 ∧ (127 : BitVec 8).toNat ≤ 127 ∧
    (127 : Index14).toNat ≤ State.reset.cfg.envMaxIndex := by decide

/-- Addresses no register has, next to those that have one; and the parameters of the vectors with the largest BLOCK_LEN. -/
theorem test_witness_RegisterMap :
    ({ Config.vectors with blockLen := 65535 } : Config).blockLen < 2 ^ 16 ∧ Config.vectors.sampleRate < 2 ^ 32 ∧
    ({ Config.vectors with sampleRate := 2 ^ 32 - 1 } : Config).sampleRate < 2 ^ 32 ∧
    (∀ a ∈ ([0x00C, 0x00F, 0x016, 0x017, 0x02E, 0x030, 0x0FF, 0x105, 0x107, 0x10B, 0x118, 0x1F8, 0x200, 0xFFF] : List Nat),
      ¬ namedAddress a) ∧
    ∀ a ∈ ([0x000, 0x00B, 0x010, 0x015, 0x02D, 0x100, 0x104, 0x108, 0x10A, 0x116, 0x1E8, 0x1F6] : List Nat),
      namedAddress a := by
  refine ⟨by decide, by decide, by decide, ?_⟩
  simp only [namedAddress]
  decide +kernel

theorem test_witness_ConfigRegisterFields :
    State.reset.cfg.envIndexBits = .bits7 ∧ State.reset.cfg.envTickMode = .perSample ∧
    State.reset.cfg.phaseResetOnNoteOn = false ∧ State.reset.cfg.envRateMin = 0 ∧ ∃ t, step State.reset = .next t :=
  ⟨by decide, by decide, by decide, by decide, ⟨_, rfl⟩⟩

/-- The ends of the note range and of the admitted sample rates; the results of 95_test_vectors.md section 2.3. -/
theorem test_witness_PitchRomIsTheRoundedFrequency :
    12544 ≤ Config.vectors.sampleRate ∧ 127 ≤ 127 ∧ memReadPitch Config.vectors 127 = 1221665363 ∧
    memReadPitch Config.vectors 0 = 796254 := by decide +kernel

theorem test_witness_PitchDoublesPerOctave :
    12544 ≤ ({ Config.vectors with sampleRate := 12544 } : Config).sampleRate ∧ 115 ≤ 115 := by decide

/-- The ends of the index range (section 2.5). -/
theorem test_witness_DurationLutIsTheTruncatedTaper :
    12544 ≤ Config.vectors.sampleRate ∧ Config.vectors.sampleRate < 429496729 ∧ 127 ≤ Config.vectors.envMaxIndex ∧
    (memReadEnvlut Config.vectors 127).toNat = 441000 ∧
    (memReadEnvlut Config.vectors 0).toNat = 44 := by decide +kernel

theorem test_witness_DurationLutEndsAndOrder : wide.wf = true ∧ 16382 < wide.envMaxIndex := by decide

theorem test_witness_WavetableContents : 1 ≤ 2047 ∧ 2047 ≤ 2047 ∧ 2048 ≤ 2048 ∧ memReadWt .ramp 1 = 4678 ∧
    memReadWt .ramp 2047 = -4678 := by decide +kernel

end Sys2Proof.Tests
end

section
/-! SUPPORT. Words and their rejection: the decoder read in the stages of 60_exceptions.md rule R373, the word of a decoded
command, and the one cause a word has, whether it is found at decode or when the command executes. -/

namespace Sys2Proof.Machine

open Sys2Proof.Claims

/-! ## Fields and the reserved-zero masks -/

/-- The statements' bit ranges are the decoder's fields (00_scope.md rule R18). -/
@[simp] theorem bitsOf_eq_field (w : Word) (lo len : Nat) : bitsOf w lo len = field w lo len := by
  simp [bitsOf, field, Nat.shiftRight_eq_div_pow]

@[simp] theorem toNat_ofNat_field (w : Word) (lo len : Nat) :
    (BitVec.ofNat len (field w lo len)).toNat = field w lo len := by
  rw [BitVec.toNat_ofNat, Nat.mod_eq_of_lt (field_lt w lo len)]

theorem field_eq_zero_iff (w : Word) (lo len : Nat) :
    field w lo len = 0 ↔ ∀ i < len, w.getLsbD (lo + i) = false := by
  have hextract : field w lo len = 0 ↔ w.extractLsb' lo len = 0#len := by
    simp [← bitsOf_eq_field, bitsOf, ← BitVec.toNat_inj]
  rw [hextract, BitVec.eq_of_getLsbD_eq_iff]
  exact forall₂_congr fun i hi => by simp [hi]

/-- The word whose ones are the bits `lo .. lo+len-1`. -/
def fieldMask (lo len : Nat) : Word := (BitVec.allOnes len).setWidth 32 <<< lo

theorem getLsbD_fieldMask {lo len j : Nat} (hj : j < 32) :
    (fieldMask lo len).getLsbD j = decide (lo ≤ j ∧ j < lo + len) := by
  rw [Bool.eq_iff_iff]
  simp [fieldMask, hj]
  omega

theorem and_fieldMask_eq_zero (w : Word) {lo len : Nat} (h : lo + len ≤ 32) :
    w &&& fieldMask lo len = 0#32 ↔ field w lo len = 0 := by
  rw [field_eq_zero_iff, BitVec.eq_of_getLsbD_eq_iff]
  constructor
  · intro hz i hi
    simpa [getLsbD_fieldMask (show lo + i < 32 by omega), hi] using hz (lo + i) (by omega)
  · intro hz j hj
    by_cases hin : lo ≤ j ∧ j < lo + len
    · have hbit := hz (j - lo) (by omega)
      rw [Nat.add_sub_cancel' hin.1] at hbit
      simp [hbit]
    · simp [getLsbD_fieldMask hj, hin]

/-! ## The decoder in the stages of 60_exceptions.md rule R373 -/

/-- The sum of the fields that the format of opcode `op` defines as zero (30_encoding.md rules R111 to R119). -/
def reservedFields (w : Word) : Nat → Nat
  | 0 => field w 0 28
  | 1 => field w 15 13
  | 2 => field w 8 20
  | 3 => field w 27 1 + field w 14 10
  | 4 => field w 26 2 + field w 23 1 + field w 14 6
  | 5 => field w 16 12
  | 6 => field w 0 28
  | 7 => field w 12 16
  | 8 => field w 14 14
  | 9 => field w 8 20
  | _ => field w 14 14

/-- What the other fields of opcode `op`'s format stand for. -/
def decodeFields (w : Word) : Nat → Decoded
  | 0 => .command .nop
  | 1 => .command (.noteOn (.ofNat 8 (field w 0 8)) (.ofNat 7 (field w 8 7)))
  | 2 => .command (.noteOff (.ofNat 8 (field w 0 8)))
  | 3 => decodeCtrl (field w 24 3) (.ofNat 14 (field w 0 14))
  | 4 => decodeLayer (field w 20 3) (Fin.ofNat 4 (field w 24 2)) (.ofNat 14 (field w 0 14))
  | 5 => .command (.render (.ofNat 16 (field w 0 16)))
  | 6 => .command .poll
  | 7 => .command (.readReg (.ofNat 12 (field w 0 12)))
  | 8 => .command (.readWt (waveOfCode (field w 12 2)) (.ofNat 12 (field w 0 12)))
  | 9 => .command (.readPitch (.ofNat 8 (field w 0 8)))
  | _ => .command (.readEnvlut (.ofNat 14 (field w 0 14)))

theorem decode_eq_stages (w : Word) :
    decode w = if 11 ≤ field w 28 4 then .reject .reservedOpcode
      else unlessReserved (reservedFields w (field w 28 4)) (decodeFields w (field w 28 4)) := by
  unfold decode
  match field w 28 4 with
  | 0 | 1 | 2 | 3 | 4 | 5 | 6 | 7 | 8 | 9 | 10 => rfl
  | n + 11 => exact (if_pos (Nat.le_add_left 11 n)).symm

/-- A reserved-zero mask is the union of the masks of the format's zero fields. -/
theorem and_reservedMask_eq_zero (w : Word) {op : Nat} (h : op < 11) :
    w &&& reservedMask op = 0 ↔ reservedFields w op = 0 := by
  match op, h with
  | 0, _ | 6, _ => exact and_fieldMask_eq_zero w (lo := 0) (len := 28) (by decide)
  | 1, _ => exact and_fieldMask_eq_zero w (lo := 15) (len := 13) (by decide)
  | 2, _ | 9, _ => exact and_fieldMask_eq_zero w (lo := 8) (len := 20) (by decide)
  | 3, _ =>
    have hmask : reservedMask 3 = fieldMask 27 1 ||| fieldMask 14 10 := by decide
    simp [hmask, reservedFields, BitVec.and_or_distrib_left, and_fieldMask_eq_zero]
  | 4, _ =>
    have hmask : reservedMask 4 = fieldMask 26 2 ||| fieldMask 23 1 ||| fieldMask 14 6 := by decide
    simp [hmask, reservedFields, BitVec.and_or_distrib_left, and_fieldMask_eq_zero]
  | 5, _ => exact and_fieldMask_eq_zero w (lo := 16) (len := 12) (by decide)
  | 7, _ => exact and_fieldMask_eq_zero w (lo := 12) (len := 16) (by decide)
  | 8, _ | 10, _ => exact and_fieldMask_eq_zero w (lo := 14) (len := 14) (by decide)

/-! ## Commands with a selector (30_encoding.md rules R121, R122) -/

/-- TGT 0..4 give a command, 5..7 none; what the command's word, legal values and range cause are does not depend on TGT
but through `encodeCtrl` and `ctrlLimit`. -/
theorem decodeCtrl_cases (tgt : Nat) (value : Index14) :
    (5 ≤ tgt ∧ decodeCtrl tgt value = .reject .reservedSelector) ∨
      (tgt < 5 ∧ ∃ i, decodeCtrl tgt value = .command i ∧ encode i = encodeCtrl tgt value ∧
        rangeCause i = .valueRange ∧ ∀ c, i.wf c = decide (value.toNat ≤ ctrlLimit c tgt)) := by
  match tgt with
  | 0 | 1 | 2 | 3 | 4 => exact .inr ⟨by decide, _, rfl, rfl, rfl, fun _ => rfl⟩
  | n + 5 => exact .inl ⟨by omega, rfl⟩

/-- PRM 0..5 give a command, 6 and 7 none. -/
theorem decodeLayer_cases (prm : Nat) (layer : Fin 4) (value : Index14) :
    (6 ≤ prm ∧ decodeLayer prm layer value = .reject .reservedSelector) ∨
      (prm < 6 ∧ ∃ i, decodeLayer prm layer value = .command i ∧ encode i = encodeLayer prm layer value ∧
        rangeCause i = .valueRange ∧ ∀ c, i.wf c = decide (value.toNat ≤ layerLimit c prm)) := by
  match prm with
  | 0 | 1 | 2 | 3 | 4 | 5 => exact .inr ⟨by decide, _, rfl, rfl, rfl, fun _ => rfl⟩
  | n + 6 => exact .inl ⟨by omega, rfl⟩

/-! ## The word of a decoded command -/

theorem decode_command {w : Word} {i : Instr} (h : decode w = .command i) :
    field w 28 4 < 11 ∧ reservedFields w (field w 28 4) = 0 ∧ decodeFields w (field w 28 4) = .command i := by
  rw [decode_eq_stages] at h
  split at h
  case isTrue => cases h
  case isFalse hop => exact ⟨by omega, unlessReserved_command.mp h⟩

theorem encode_of_decodeCtrl {tgt : Nat} {value : Index14} {i : Instr} (h : decodeCtrl tgt value = .command i) :
    encode i = encodeCtrl tgt value := by
  obtain ⟨-, hd⟩ | ⟨-, j, hd, henc, -⟩ := decodeCtrl_cases tgt value <;> rw [hd] at h <;> cases h
  exact henc

theorem encode_of_decodeLayer {prm : Nat} {layer : Fin 4} {value : Index14} {i : Instr}
    (h : decodeLayer prm layer value = .command i) : encode i = encodeLayer prm layer value := by
  obtain ⟨-, hd⟩ | ⟨-, j, hd, henc, -⟩ := decodeLayer_cases prm layer value <;> rw [hd] at h <;> cases h
  exact henc

theorem waveCode_waveOfCode {n : Nat} (h : n < 4) : waveCode (waveOfCode n) = n := by
  interval_cases n <;> rfl

/-- The opcode, the zero fields and the operands of an accepted word are all of its bits. -/
theorem encode_of_decode {w : Word} {i : Instr} (h : decode w = .command i) : encode i = w := by
  obtain ⟨hop, hzero, hfields⟩ := decode_command h
  generalize hopcode : field w 28 4 = op at hop hzero hfields
  apply BitVec.eq_of_toNat_eq
  revert hopcode hzero hfields
  match op, hop with
  | 3, _ =>
    intro hopcode hzero hfields
    rw [encode_of_decodeCtrl hfields]
    simp only [encodeCtrl, BitVec.toNat_ofNat, reservedFields, field] at hopcode hzero ⊢
    omega
  | 4, _ =>
    intro hopcode hzero hfields
    have hlayer : field w 24 2 % 4 = field w 24 2 := Nat.mod_eq_of_lt (field_lt w 24 2)
    rw [encode_of_decodeLayer hfields, encodeLayer, toNat_ofNat_field, Fin.val_ofNat, hlayer, BitVec.toNat_ofNat]
    simp only [reservedFields, Nat.add_eq_zero_iff, field] at hopcode hzero ⊢
    omega
  | 8, _ =>
    intro hopcode hzero hfields
    cases hfields
    simp only [encode, waveCode_waveOfCode (field_lt w 12 2)]
    simp only [BitVec.toNat_ofNat, reservedFields, field] at hopcode hzero ⊢
    omega
  | 0, _ | 1, _ | 2, _ | 5, _ | 6, _ | 7, _ | 9, _ | 10, _ =>
    intro hopcode hzero hfields
    cases hfields
    simp only [encode, BitVec.toNat_ofNat, reservedFields, field] at hopcode hzero ⊢
    omega

/-! ## The cause of a word, from what it decodes to -/

/-- The cause for which the block rejects a word that decodes to `d`, at decode or for a range. -/
def causeOfDecoded (c : Config) : Decoded → Option RejectCause
  | .command i => if i.wf c then none else some (rangeCause i)
  | .reject cause => some cause

theorem causeOfDecoded_unlessReserved (c : Config) (z : Nat) (d : Decoded) :
    causeOfDecoded c (unlessReserved z d) = if z = 0 then causeOfDecoded c d else some .reservedBits := by
  unfold unlessReserved
  split <;> rfl

/-- A command with one operand bound (rule R124) is rejected exactly above it. -/
theorem causeOfDecoded_command {c : Config} {i : Instr} {operand limit : Nat}
    (hwf : i.wf c = decide (operand ≤ limit)) :
    causeOfDecoded c (.command i) = if operand > limit then some (rangeCause i) else none := by
  by_cases h : operand ≤ limit
  · simp [causeOfDecoded, hwf, h, Nat.not_lt.mpr h]
  · simp [causeOfDecoded, hwf, h, Nat.not_le.mp h]

theorem causeOfDecoded_ctrl (c : Config) (tgt : Nat) (value : Index14) :
    causeOfDecoded c (decodeCtrl tgt value) = if 5 ≤ tgt then some .reservedSelector
      else if value.toNat > ctrlLimit c tgt then some .valueRange else none := by
  obtain ⟨hsel, hd⟩ | ⟨hsel, i, hd, -, hcause, hwf⟩ := decodeCtrl_cases tgt value
  · simp [hd, hsel, causeOfDecoded]
  · rw [hd, causeOfDecoded_command (hwf c), hcause, if_neg (Nat.not_le.mpr hsel)]

theorem causeOfDecoded_layer (c : Config) (prm : Nat) (layer : Fin 4) (value : Index14) :
    causeOfDecoded c (decodeLayer prm layer value) = if 6 ≤ prm then some .reservedSelector
      else if value.toNat > layerLimit c prm then some .valueRange else none := by
  obtain ⟨hsel, hd⟩ | ⟨hsel, i, hd, -, hcause, hwf⟩ := decodeLayer_cases prm layer value
  · simp [hd, hsel, causeOfDecoded]
  · rw [hd, causeOfDecoded_command (hwf c), hcause, if_neg (Nat.not_le.mpr hsel)]

/-- After the reserved bits come the selector, then the range of the operands. -/
theorem causeOfDecoded_decodeFields (c : Config) (w : Word) (h : field w 28 4 < 11) :
    causeOfDecoded c (decodeFields w (field w 28 4)) =
      if (field w 28 4 = 3 ∧ 5 ≤ field w 24 3) ∨ (field w 28 4 = 4 ∧ 6 ≤ field w 20 3)
      then some .reservedSelector else rangeCauseOf c w := by
  simp only [rangeCauseOf, bitsOf_eq_field]
  generalize field w 28 4 = op at *
  match op, h with
  | 3, _ => simp only [decodeFields, causeOfDecoded_ctrl, toNat_ofNat_field]; simp
  | 4, _ => simp only [decodeFields, causeOfDecoded_layer, toNat_ofNat_field]; simp
  | 0, _ | 6, _ | 7, _ => rfl
  | 5, _ =>
    simp only [decodeFields, causeOfDecoded, Instr.wf, toNat_ofNat_field]
    simp [Nat.one_le_iff_ne_zero, rangeCause]
  | 1, _ | 2, _ | 8, _ | 9, _ | 10, _ =>
    simp only [decodeFields]
    rw [causeOfDecoded_command rfl, toNat_ofNat_field]
    simp [rangeCause]

/-- The statements' cause, from masks and limits, is the decoder's and the meanings'. -/
theorem causeOf_eq (c : Config) (w : Word) : causeOf c w = causeOfDecoded c (decode w) := by
  simp only [causeOf, bitsOf_eq_field, decode_eq_stages]
  split
  case isTrue => rfl
  case isFalse hop =>
    have hop : field w 28 4 < 11 := by omega
    simp [causeOfDecoded_unlessReserved, ← and_reservedMask_eq_zero w hop, causeOfDecoded_decodeFields c w hop]

/-! ## A step that consumes a word -/

theorem step_command {s : State} {w : Word} {ready : Bool} {rest : List PortEvent}
    (h : s.port = .command w ready :: rest) : step s = execWord w (s.consume ready rest) := by
  simp [step, h]

theorem execWord_command {w : Word} {i : Instr} (h : decode w = .command i) (s : State) : execWord w s = exec i s := by
  simp [execWord, h]

theorem execWord_reject {w : Word} {cause : RejectCause} (h : decode w = .reject cause) (s : State) :
    execWord w s = .next (s.reject cause w) := by
  simp [execWord, h]

/-- A word with a cause is rejected for it, whether at decode or when its command executes. -/
theorem execWord_of_cause {s : State} {w : Word} {cause : RejectCause} (h : causeOf s.cfg w = some cause) :
    execWord w s = .next (s.reject cause w) := by
  rw [causeOf_eq] at h
  cases hd : decode w with
  | reject cause' =>
    obtain rfl : cause' = cause := by simpa [hd, causeOfDecoded] using h
    exact execWord_reject hd s
  | command i =>
    obtain ⟨hwf, rfl⟩ : i.wf s.cfg = false ∧ rangeCause i = cause := by simpa [hd, causeOfDecoded] using h
    rw [execWord_command hd, exec_not_wf hwf, encode_of_decode hd]

/-! ## The obligations -/

/-- Settles O5, from `execWord_of_cause` in the state that has consumed the word. -/
theorem rejectedWordIsRecordedAndHasNoOtherEffect : Obligations.RejectedWordIsRecordedAndHasNoOtherEffect := by
  intro s w ready rest cause hport hcause
  rw [step_command hport, execWord_of_cause (s := s.consume ready rest) hcause]
  rfl

/-- Settles O7. -/
theorem stepRunsTheDecodedCommand : Obligations.StepRunsTheDecodedCommand := by
  intro s w ready rest i hport hdecode
  rw [step_command hport, execWord_command hdecode]
  rfl

end Sys2Proof.Machine
end

section
/-! SUPPORT. What the effect of a command writes, register by register (10_state.md rule R54): the commands fall into
five kinds (`effect_kinds`), and each register has one lemma that says which kind can change it. -/

namespace Sys2Proof.Machine

open Sys2Proof.Claims

/-! ## Blocks -/

/-- A block leaves these fields as they were (47_mixer.md rules R332, R334). -/
@[simp] theorem blockState_frame (s : State) (n : Nat) :
    (s.blockState n).cfg = s.cfg ∧ (s.blockState n).patch = s.patch ∧
    (s.blockState n).masterGain = s.masterGain ∧ (s.blockState n).dropoutCount = s.dropoutCount ∧
    (s.blockState n).rejectCount = s.rejectCount ∧ (s.blockState n).rejectCause = s.rejectCause ∧
    (s.blockState n).rejectWord = s.rejectWord ∧ (s.blockState n).lookaheadFull = s.lookaheadFull ∧
    (s.blockState n).lookahead = s.lookahead ∧ (s.blockState n).cp = s.cp ∧
    (s.blockState n).sinkOut = s.sinkOut ∧ (s.blockState n).respOut = s.respOut ∧
    (s.blockState n).port = s.port ∧ (s.blockState n).sinkReady = s.sinkReady := by
  have h := blockState_same s n
  exact ⟨h.cfg, h.patch, h.masterGain, h.dropoutCount, h.rejectCount, h.rejectCause, h.rejectWord, h.lookaheadFull,
    h.lookahead, h.cp, h.sinkOut, h.respOut, h.port, h.sinkReady⟩

/-! ## The operations of the commands -/

@[simp] theorem effect_noteOn (n : BitVec 8) (k : BitVec 7) (s : State) :
    effect (.noteOn n k) s = s.claimVoice (noteOfOperand n) := rfl

@[simp] theorem effect_noteOff (n : BitVec 8) (s : State) :
    effect (.noteOff n) s = s.releaseVoice (noteOfOperand n) := rfl

@[simp] theorem effect_render (n : BitVec 16) (s : State) : effect (.render n) s = s.fillSink n.toNat := rfl

@[simp] theorem effect_poll (s : State) : effect .poll s = s.pollState := rfl

/-- A note-off leaves every field but the voice pool. -/
@[simp] theorem releaseVoice_frame (s : State) (n : BitVec 7) :
    (s.releaseVoice n).cfg = s.cfg ∧ (s.releaseVoice n).patch = s.patch ∧
    (s.releaseVoice n).masterGain = s.masterGain ∧ (s.releaseVoice n).peak = s.peak ∧
    (s.releaseVoice n).dropoutCount = s.dropoutCount ∧ (s.releaseVoice n).rejectCount = s.rejectCount ∧
    (s.releaseVoice n).rejectCause = s.rejectCause ∧ (s.releaseVoice n).rejectWord = s.rejectWord ∧
    (s.releaseVoice n).lookaheadFull = s.lookaheadFull ∧ (s.releaseVoice n).lookahead = s.lookahead ∧
    (s.releaseVoice n).sampleCounter = s.sampleCounter ∧ (s.releaseVoice n).runPeak = s.runPeak ∧
    (s.releaseVoice n).cp = s.cp ∧ (s.releaseVoice n).sinkOut = s.sinkOut ∧ (s.releaseVoice n).respOut = s.respOut ∧
    (s.releaseVoice n).port = s.port ∧ (s.releaseVoice n).sinkReady = s.sinkReady := by
  obtain ⟨-, h⟩ | ⟨v, -, h⟩ := releaseVoice_cases s n <;> simp [h]

/-- A note-off leaves a voice as it was, or releases its active layers. -/
theorem releaseVoice_get (s : State) (n : BitVec 7) (v : Fin 8) :
    (s.releaseVoice n).voices.get v = s.voices.get v ∨
      (s.releaseVoice n).voices.get v
        = (s.voices.get v).onActive s.patch (LayerEnv.releaseUnlessIdle s.cfg) := by
  obtain ⟨-, h⟩ | ⟨u, -, h⟩ := releaseVoice_cases s n
  · rw [h]; exact .inl rfl
  · by_cases hv : v = u <;> simp [h, hv]

/-- RENDER's effect, field by field: a block, and its samples at the sink. -/
theorem fillSink_eq (s : State) (n : Nat) :
    s.fillSink n = { s.blockState n with sinkOut := (s.blockState n).sinkOut ++ [s.blockOut n] } := rfl

/-- The fill-ahead, field by field: a block, and its samples in LOOKAHEAD. -/
theorem fillAhead_eq (s : State) :
    s.fillAhead = { s.blockState s.cfg.blockLen with
      lookahead := s.blockOut s.cfg.blockLen, lookaheadFull := true } := rfl

/-- A fill of the sink leaves every field but the voices, the meters, the counter and SINK_OUT. -/
@[simp] theorem fillSink_frame (s : State) (n : Nat) :
    (s.fillSink n).cfg = s.cfg ∧ (s.fillSink n).patch = s.patch ∧ (s.fillSink n).masterGain = s.masterGain ∧
    (s.fillSink n).dropoutCount = s.dropoutCount ∧ (s.fillSink n).rejectCount = s.rejectCount ∧
    (s.fillSink n).rejectCause = s.rejectCause ∧ (s.fillSink n).rejectWord = s.rejectWord ∧
    (s.fillSink n).lookaheadFull = s.lookaheadFull ∧ (s.fillSink n).lookahead = s.lookahead ∧
    (s.fillSink n).cp = s.cp ∧ (s.fillSink n).respOut = s.respOut ∧ (s.fillSink n).port = s.port ∧
    (s.fillSink n).sinkReady = s.sinkReady := by
  simp [fillSink_eq]

/-- What a POLL leaves in every case (rule R341). -/
@[simp] theorem pollState_frame (s : State) :
    (s.pollState).cfg = s.cfg ∧ (s.pollState).patch = s.patch ∧ (s.pollState).masterGain = s.masterGain ∧
    (s.pollState).rejectCount = s.rejectCount ∧ (s.pollState).rejectCause = s.rejectCause ∧
    (s.pollState).rejectWord = s.rejectWord ∧ (s.pollState).cp = s.cp ∧ (s.pollState).respOut = s.respOut ∧
    (s.pollState).port = s.port ∧ (s.pollState).sinkReady = s.sinkReady := by
  obtain ⟨-, -, h⟩ | ⟨-, -, h⟩ | ⟨-, -, h⟩ | ⟨-, -, h⟩ := pollState_cases s <;> simp [h, fillAhead_eq]

/-- A POLL that finds the lookahead full copies it, or drops out. -/
theorem pollState_of_full {s : State} (h : s.lookaheadFull = true) :
    (s.sinkReady = true ∧ s.pollState = s.copyLookahead) ∨ (s.sinkReady = false ∧ s.pollState = s.dropout) := by
  obtain ⟨hr, -, hp⟩ | ⟨-, hf, -⟩ | ⟨-, hf, -⟩ | ⟨hr, -, hp⟩ := pollState_cases s
  · exact .inl ⟨hr, hp⟩
  · simp [hf] at h
  · simp [hf] at h
  · exact .inr ⟨hr, hp⟩

/-- A POLL that finds it empty fills the sink, or LOOKAHEAD. -/
theorem pollState_of_empty {s : State} (h : s.lookaheadFull = false) :
    s.pollState = s.fillSink s.cfg.blockLen ∨ s.pollState = s.fillAhead := by
  obtain ⟨-, hf, -⟩ | ⟨-, -, hp⟩ | ⟨-, -, hp⟩ | ⟨-, hf, -⟩ := pollState_cases s
  · simp [hf] at h
  · exact .inl hp
  · exact .inr hp
  · simp [hf] at h

/-! ## The five kinds of effect -/

/-- A command that synthesizes samples: RENDER, and POLL with the lookahead empty (rules R335, R336). -/
def Synthesizes (s : State) (i : Instr) : Prop := (∃ n, i = .render n) ∨ (i = .poll ∧ s.lookaheadFull = false)

theorem synthesized_poll {s : State} (h : s.lookaheadFull = false) : synthesized s .poll = s.cfg.blockLen :=
  if_neg (by simp [h])

theorem synthesized_eq_zero {s : State} {i : Instr} (h : ¬ Synthesizes s i) : synthesized s i = 0 := by
  cases i with
  | render n => exact absurd (.inl ⟨n, rfl⟩) h
  | poll => exact if_pos (by simpa [Synthesizes] using h)
  | _ => rfl

/-- A command that synthesizes runs one block; where the samples go is all that differs. -/
theorem effect_of_synthesizes {s : State} {i : Instr} (h : Synthesizes s i) :
    ∃ out look full, effect i s =
      { s.blockState (synthesized s i) with sinkOut := out, lookahead := look, lookaheadFull := full } := by
  obtain ⟨n, rfl⟩ | ⟨rfl, hfull⟩ := h
  · exact ⟨_, _, _, fillSink_eq s n.toNat⟩
  · rw [synthesized_poll hfull, effect_poll]
    obtain hp | hp := pollState_of_empty hfull
    · exact ⟨_, _, _, hp.trans (fillSink_eq s _)⟩
    · exact ⟨_, _, _, hp.trans (fillAhead_eq s)⟩

/-- The kinds of commands: parameter commands, reads and NOP, which write the patch, the gain and RESP_OUT at most;
NOTE_ON; NOTE_OFF; those that synthesize; and a POLL that finds the lookahead full. -/
theorem effect_kinds (i : Instr) (s : State) :
    (∃ p g r, effect i s = { s with patch := p, masterGain := g, respOut := r }) ∨
      (∃ n k, i = .noteOn n k) ∨ (∃ n, i = .noteOff n) ∨ Synthesizes s i ∨ (i = .poll ∧ s.lookaheadFull = true) := by
  cases i with
  | noteOn n k => exact .inr (.inl ⟨n, k, rfl⟩)
  | noteOff n => exact .inr (.inr (.inl ⟨n, rfl⟩))
  | render n => exact .inr (.inr (.inr (.inl (.inl ⟨n, rfl⟩))))
  | poll =>
    cases hf : s.lookaheadFull
    · exact .inr (.inr (.inr (.inl (.inr ⟨rfl, hf⟩))))
    · exact .inr (.inr (.inr (.inr ⟨rfl, rfl⟩)))
  | _ => exact .inl ⟨_, _, _, rfl⟩

/-! ## The patch -/

/-- What a command with legal operands makes of the descriptor `p` of layer `l` (46_parameters.md rules R301 to
R313). -/
def layerAfter (i : Instr) (l : Fin 4) (p : PatchLayer) : PatchLayer :=
  match i with
  | .ctrlAttack value => { p with attack := value }
  | .ctrlDecay value => { p with decay := value }
  | .ctrlSustain value => { p with sustain := sustainOfValue value }
  | .ctrlRelease value => { p with release := value }
  | .layerShape k value => if l = k then { p with shape := shapeOfValue value } else p
  | .layerAttack k value => if l = k then { p with attack := value } else p
  | .layerDecay k value => if l = k then { p with decay := value } else p
  | .layerSustain k value => if l = k then { p with sustain := sustainOfValue value } else p
  | .layerRelease k value => if l = k then { p with release := value } else p
  | .layerMix k value => if l = k then { p with mix := sevenBitOfValue value } else p
  | .nop | .noteOn _ _ | .noteOff _ | .ctrlGain _ | .render _ | .poll | .readReg _ | .readWt _ _ | .readPitch _
  | .readEnvlut _ => p

theorem effect_patch_get (i : Instr) (s : State) (l : Fin 4) :
    (effect i s).patch.get l = layerAfter i l (s.patch.get l) := by
  cases i <;> simp [effect, layerAfter]

/-- Each field of a descriptor is written by the commands named for it, in the layer they name (rule R54). -/
theorem effect_patch_writes (i : Instr) (s : State) :
    (∀ l, ((effect i s).patch.get l).shape ≠ (s.patch.get l).shape → ∃ v, i = .layerShape l v) ∧
    (∀ l, ((effect i s).patch.get l).attack ≠ (s.patch.get l).attack → ∃ v, i = .ctrlAttack v ∨ i = .layerAttack l v) ∧
    (∀ l, ((effect i s).patch.get l).decay ≠ (s.patch.get l).decay → ∃ v, i = .ctrlDecay v ∨ i = .layerDecay l v) ∧
    (∀ l, ((effect i s).patch.get l).sustain ≠ (s.patch.get l).sustain →
      ∃ v, i = .ctrlSustain v ∨ i = .layerSustain l v) ∧
    (∀ l, ((effect i s).patch.get l).release ≠ (s.patch.get l).release →
      ∃ v, i = .ctrlRelease v ∨ i = .layerRelease l v) ∧
    (∀ l, ((effect i s).patch.get l).mix ≠ (s.patch.get l).mix → ∃ v, i = .layerMix l v) := by
  simp only [← forall_and, effect_patch_get]
  intro l
  generalize s.patch.get l = p
  fun_cases layerAfter i l p <;> simp_all

/-! ## The gain, the voices, the meters and the buffer -/

/-- The fields no effect writes: the parameters, REJECT_*, CP, and the inputs. -/
@[simp] theorem effect_frame (i : Instr) (s : State) :
    (effect i s).cfg = s.cfg ∧ (effect i s).rejectCount = s.rejectCount ∧
    (effect i s).rejectCause = s.rejectCause ∧ (effect i s).rejectWord = s.rejectWord ∧
    (effect i s).cp = s.cp ∧ (effect i s).port = s.port ∧ (effect i s).sinkReady = s.sinkReady := by
  obtain ⟨p, g, r, he⟩ | ⟨n, k, rfl⟩ | ⟨n, rfl⟩ | hs | ⟨rfl, -⟩ := effect_kinds i s
  · simp [he]
  · simp
  · simp
  · obtain ⟨out, look, full, he⟩ := effect_of_synthesizes hs
    simp [he]
  · simp

theorem effect_masterGain {i : Instr} {s : State} (h : (effect i s).masterGain ≠ s.masterGain) :
    ∃ v, i = .ctrlGain v := by
  revert h
  cases i with
  | ctrlGain v => exact fun _ => ⟨v, rfl⟩
  | _ => simp [effect]

/-- The four things a command can do to the voice pool. -/
theorem effect_voices_cases (i : Instr) (s : State) :
    (effect i s).voices = s.voices ∨
      (∃ n k, i = .noteOn n k ∧ (effect i s).voices =
        s.voices.modify s.findNext (Voice.claim s.cfg s.patch s.sampleCounter (noteOfOperand n))) ∨
      (∃ n, i = .noteOff n ∧ (effect i s).voices = (s.releaseVoice (noteOfOperand n)).voices) ∨
      (Synthesizes s i ∧ (effect i s).voices = (s.blockState (synthesized s i)).voices) := by
  obtain ⟨p, g, r, he⟩ | ⟨n, k, rfl⟩ | ⟨n, rfl⟩ | hs | ⟨rfl, hf⟩ := effect_kinds i s
  · exact .inl (by rw [he])
  · exact .inr (.inl ⟨n, k, rfl, rfl⟩)
  · exact .inr (.inr (.inl ⟨n, rfl, rfl⟩))
  · obtain ⟨out, look, full, he⟩ := effect_of_synthesizes hs
    exact .inr (.inr (.inr ⟨hs, by rw [he]⟩))
  · obtain ⟨-, hp⟩ | ⟨-, hp⟩ := pollState_of_full hf <;> exact .inl (by simp [hp])

/-- PEAK and SAMPLE_COUNTER are written by the commands that synthesize (rules R54, R61). -/
theorem effect_meters {i : Instr} {s : State} (h : ¬ Synthesizes s i) :
    (effect i s).peak = s.peak ∧ (effect i s).runPeak = s.runPeak ∧ (effect i s).sampleCounter = s.sampleCounter := by
  obtain ⟨p, g, r, he⟩ | ⟨n, k, rfl⟩ | ⟨n, rfl⟩ | hs | ⟨rfl, hf⟩ := effect_kinds i s
  · simp [he]
  · simp
  · simp
  · exact absurd hs h
  · obtain ⟨-, hp⟩ | ⟨-, hp⟩ := pollState_of_full hf <;> simp [hp]

theorem effect_dropoutCount {i : Instr} {s : State} (h : (effect i s).dropoutCount ≠ s.dropoutCount) :
    i = .poll ∧ s.sinkReady = false ∧ s.lookaheadFull = true := by
  obtain ⟨p, g, r, he⟩ | ⟨n, k, rfl⟩ | ⟨n, rfl⟩ | hs | ⟨rfl, hf⟩ := effect_kinds i s
  · simp [he] at h
  · simp at h
  · simp at h
  · obtain ⟨out, look, full, he⟩ := effect_of_synthesizes hs
    simp [he] at h
  · obtain ⟨-, hp⟩ | ⟨hr, -⟩ := pollState_of_full hf
    · simp [hp] at h
    · exact ⟨rfl, hr, hf⟩

/-- LOOKAHEAD and LOOKAHEAD_FULL are written by POLL alone. -/
theorem effect_lookahead {i : Instr} {s : State} (h : i ≠ .poll) :
    (effect i s).lookahead = s.lookahead ∧ (effect i s).lookaheadFull = s.lookaheadFull := by
  obtain ⟨p, g, r, he⟩ | ⟨n, k, rfl⟩ | ⟨n, rfl⟩ | (⟨n, rfl⟩ | ⟨rfl, -⟩) | ⟨rfl, -⟩ := effect_kinds i s
  · simp [he]
  · simp
  · simp
  · simp
  · exact absurd rfl h
  · exact absurd rfl h

/-! ## The counter and the streams -/

/-- SAMPLE_COUNTER counts the samples synthesized (rule R61). -/
theorem effect_sampleCounter (i : Instr) (s : State) :
    (effect i s).sampleCounter = s.sampleCounter + BitVec.ofNat 64 (synthesized s i) := by
  by_cases hs : Synthesizes s i
  · obtain ⟨out, look, full, he⟩ := effect_of_synthesizes hs
    simp [he, blockState_sampleCounter]
  · simp [(effect_meters hs).2.2, synthesized_eq_zero hs]

/-- What a command appends to SINK_OUT: nothing, a block it synthesizes, or the stored one. -/
theorem effect_sinkOut (i : Instr) (s : State) :
    (effect i s).sinkOut = s.sinkOut ∨ (∃ n, (effect i s).sinkOut = s.sinkOut ++ [s.blockOut n]) ∨
      (effect i s).sinkOut = s.sinkOut ++ [s.lookahead] := by
  obtain ⟨p, g, r, he⟩ | ⟨n, k, rfl⟩ | ⟨n, rfl⟩ | (⟨n, rfl⟩ | ⟨rfl, hf⟩) | ⟨rfl, hf⟩ := effect_kinds i s
  · exact .inl (by rw [he])
  · exact .inl rfl
  · exact .inl (by simp)
  · exact .inr (.inl ⟨n.toNat, by simp [fillSink_eq]⟩)
  · obtain hp | hp := pollState_of_empty hf
    · exact .inr (.inl ⟨s.cfg.blockLen, by simp [hp, fillSink_eq]⟩)
    · exact .inl (by simp [hp, fillAhead_eq])
  · obtain ⟨-, hp⟩ | ⟨-, hp⟩ := pollState_of_full hf
    · exact .inr (.inr (by simp [hp]))
    · exact .inl (by simp [hp])

/-- A command appends at most one response word. -/
theorem effect_respOut (i : Instr) (s : State) :
    (effect i s).respOut = s.respOut ∨ ∃ r, (effect i s).respOut = s.respOut ++ [r] := by
  cases i with
  | readReg | readWt | readPitch | readEnvlut => exact .inr ⟨_, rfl⟩
  | _ => exact .inl (by simp [effect])

/-! ## Notes, phases and envelopes -/

/-- The note, the tune and the timestamp of a voice are written by the NOTE_ON that claims it (rule R54). -/
theorem effect_voice_identity {i : Instr} {s : State} {v : Fin 8}
    (h : ((effect i s).voices.get v).note ≠ (s.voices.get v).note ∨
      ((effect i s).voices.get v).tune ≠ (s.voices.get v).tune ∨ ((effect i s).voices.get v).ts ≠ (s.voices.get v).ts) :
    v = s.findNext ∧ ∃ n k, i = .noteOn n k := by
  obtain he | ⟨n, k, rfl, he⟩ | ⟨n, rfl, he⟩ | ⟨-, he⟩ := effect_voices_cases i s <;> rw [he] at h
  · simp at h
  · refine ⟨?_, n, k, rfl⟩
    by_contra hv
    simp [hv] at h
  · obtain hv | hv := releaseVoice_get s (noteOfOperand n) v <;> simp [hv] at h
  · have hb := blockState_same s (synthesized s i)
    simp [hb.note, hb.tune, hb.ts] at h

/-- The phase of a voice is written by a block, and by a NOTE_ON in a block built with PHASE_RESET_ON_NOTE_ON. -/
theorem effect_phase {i : Instr} {s : State} {v : Fin 8}
    (h : ((effect i s).voices.get v).phase ≠ (s.voices.get v).phase) :
    Synthesizes s i ∨ (s.cfg.phaseResetOnNoteOn = true ∧ ∃ n k, i = .noteOn n k) := by
  obtain he | ⟨n, k, rfl, -⟩ | ⟨n, rfl, -⟩ | ⟨hs, -⟩ := effect_voices_cases i s
  · simp [he] at h
  · refine .inr ⟨?_, n, k, rfl⟩
    by_contra hreset
    by_cases hv : v = s.findNext <;> simp [hv, hreset] at h
  · obtain hv | hv := releaseVoice_get s (noteOfOperand n) v <;> simp [hv] at h
  · exact .inl hs

/-- An envelope is written by the note commands and by a block. -/
theorem effect_env {i : Instr} {s : State} {v : Fin 8} {l : Fin 4} (h : (effect i s).env v l ≠ s.env v l) :
    (∃ n k, i = .noteOn n k) ∨ (∃ n, i = .noteOff n) ∨ Synthesizes s i := by
  obtain he | ⟨n, k, hi, -⟩ | ⟨n, hi, -⟩ | ⟨hs, -⟩ := effect_voices_cases i s
  · simp [State.env, he] at h
  · exact .inl ⟨n, k, hi⟩
  · exact .inr (.inl ⟨n, hi⟩)
  · exact .inr (.inr hs)

/-- No effect writes the envelope of an inactive layer (rules R44, R235). -/
theorem effect_env_of_inactive (i : Instr) (s : State) {l : Fin 4} (hl : (s.patch.get l).shape = none) (v : Fin 8) :
    (effect i s).env v l = s.env v l := by
  have hinactive : (s.patch.get l).active = false := by simp [PatchLayer.active, hl]
  obtain h | ⟨n, k, -, h⟩ | ⟨n, -, h⟩ | ⟨-, h⟩ := effect_voices_cases i s
  · simp [State.env, h]
  · by_cases hv : v = s.findNext <;> simp [State.env, h, hv, hinactive]
  · obtain hv | hv := releaseVoice_get s (noteOfOperand n) v <;> simp [State.env, h, hv, hinactive]
  · rw [State.env, h]
    exact (blockState_same s _).heldEnv v l hl

/-! ## The obligations about commands -/

/-- Settles O16: a rejection writes REJECT_* and CP, and the effect of a legal command writes each register only
where its lemma says. -/
theorem onlyTheNamedCommandsWrite : Obligations.OnlyTheNamedCommandsWrite := by
  intro i s t h
  obtain ⟨hwf, rfl⟩ | ⟨hwf, rfl⟩ := exec_cases h
  · obtain ⟨hshape, hattack, hdecay, hsustain, hrelease, hmix⟩ := effect_patch_writes i s
    refine ⟨hshape, hattack, hdecay, hsustain, hrelease, hmix, effect_masterGain, fun _ => effect_voice_identity,
      fun v hv => or_assoc.mp (effect_phase hv), fun _ _ => effect_env, ?meters, effect_dropoutCount, ?lookahead,
      by simp, by simp, by simp [hwf], ?read⟩
    case meters =>
      intro hne
      by_contra hs
      simp [effect_meters hs] at hne
    case lookahead =>
      intro hne
      by_contra hi
      simp [effect_lookahead hi] at hne
    case read => rintro a rfl; rfl
  · refine ⟨?_, ?_, ?_, ?_, ?_, ?_, ?_, ?_, ?_, ?_, ?_, ?_, ?_, fun _ => hwf, rfl, fun _ => rfl, ?read⟩
    case read => rintro a rfl; cases hwf
    all_goals simp [State.env]

/-- Settles O14: only an effect appends, one block and one word at most. -/
theorem outputStreamsOnlyGrow : Obligations.OutputStreamsOnlyGrow := by
  intro i s t h
  obtain ⟨-, rfl⟩ | ⟨-, rfl⟩ := exec_cases h
  · refine ⟨?_, effect_respOut i s⟩
    obtain hsame | ⟨n, hblock⟩ | hstored := effect_sinkOut i s
    · exact .inl hsame
    · exact .inr ⟨_, hblock⟩
    · exact .inr ⟨_, hstored⟩
  · exact ⟨.inl rfl, .inl rfl⟩

/-- Settles O17: no effect writes a held envelope, and a LAYER_SHAPE or a rejection writes no voice. -/
theorem inactiveLayersAreHeld : Obligations.InactiveLayersAreHeld := by
  intro i s t h
  obtain ⟨-, rfl⟩ | ⟨-, rfl⟩ := exec_cases h
  · exact ⟨fun l hl v => effect_env_of_inactive i s hl v, by rintro l w rfl v k; rfl⟩
  · exact ⟨fun _ _ _ => rfl, fun _ _ _ _ _ => rfl⟩

/-- Settles O23: a legal command counts what it synthesizes, and a rejected one synthesizes nothing. -/
theorem sampleCounterCountsSynthesizedSamples : Obligations.SampleCounterCountsSynthesizedSamples := by
  intro i s t h
  obtain ⟨-, rfl⟩ | ⟨hwf, rfl⟩ := exec_cases h
  · exact effect_sampleCounter i s
  · have hzero : synthesized s i = 0 := by
      cases i with
      | render n => exact (by simpa [Instr.wf] using hwf : n.toNat = 0)
      | poll => cases hwf
      | _ => rfl
    simp [hzero]

/-! ## The obligations about steps -/

/-- A word that is consumed ends as a command's effect or as a rejection. -/
theorem execWord_cases {w : Word} {s t : State} (h : execWord w s = .next t) :
    (∃ i, decode w = .command i ∧ i.wf s.cfg = true ∧ t = (effect i s).advance) ∨ ∃ cause, t = s.reject cause w := by
  cases hd : decode w with
  | reject cause =>
    rw [execWord_reject hd] at h
    cases h
    exact .inr ⟨cause, rfl⟩
  | command i =>
    rw [execWord_command hd] at h
    obtain ⟨hwf, rfl⟩ | ⟨-, rfl⟩ := exec_cases h
    · exact .inl ⟨i, rfl, hwf, rfl⟩
    · exact .inr ⟨rangeCause i, by rw [encode_of_decode hd]⟩

/-- Settles O12: an effect leaves CP to the one advance after it, and a rejection advances it too. -/
theorem everyWordAdvancesCpByOne : Obligations.EveryWordAdvancesCpByOne := by
  refine ⟨fun _ => rfl, fun s t w ready rest hport h => ?_⟩
  rw [step_command hport] at h
  obtain ⟨i, -, -, rfl⟩ | ⟨cause, rfl⟩ := execWord_cases h
  · simp
  · rfl

theorem step_cfg {s t : State} (h : step s = .next t) : t.cfg = s.cfg := by
  obtain ⟨-, rfl⟩ | ⟨w, ready, rest, -, hw⟩ | ⟨rest, -, rfl⟩ := step_cases h
  · rfl
  · obtain ⟨i, -, -, rfl⟩ | ⟨cause, rfl⟩ := execWord_cases hw
    · simp
    · rfl
  · rfl

/-- Settles O15, by `step_cfg`. -/
theorem parametersNeverChange : Obligations.ParametersNeverChange := fun _ _ => step_cfg

end Sys2Proof.Machine
end

section
/-! SUPPORT. The invariant of the block (Safety.lean): the bound of the mix (47_mixer.md rule R339), the envelopes of
IDLE layers, the channels of the output, and that every effect keeps all of it. -/

namespace Sys2Proof.Machine

/-! ## The bound of the mix -/

/-- Linear interpolation stays between its end points (43_oscillator.md rule R205). -/
theorem interpolate_between (y0 y1 : Int) {frac : Nat} (h : frac < 2 ^ 21) :
    min y0 y1 ≤ interpolate y0 y1 frac ∧ interpolate y0 y1 frac ≤ max y0 y1 := by
  have hfrac : (0 : Int) ≤ frac ∧ (frac : Int) ≤ 2 ^ 21 := by omega
  simp only [interpolate, asr]
  obtain hle | hlt := le_or_gt y0 y1
  · have hlow : 0 ≤ (y1 - y0) * frac := mul_nonneg (by omega) hfrac.1
    have hhigh : (y1 - y0) * frac ≤ (y1 - y0) * 2 ^ 21 := mul_le_mul_of_nonneg_left hfrac.2 (by omega)
    omega
  · have hlow : (y1 - y0) * 2 ^ 21 ≤ (y1 - y0) * frac := mul_le_mul_of_nonpos_left hfrac.2 (by omega)
    have hhigh : (y1 - y0) * frac ≤ 0 := mul_nonpos_of_nonpos_of_nonneg (by omega) hfrac.1
    omega

theorem oscSample_natAbs_le (p : Word) (w : Wave) : (oscSample p w).natAbs ≤ 23488 := by
  have h0 := memReadWt_range w (phaseIndex p)
  have h1 := memReadWt_range w (phaseIndex p + 1)
  have hfrac : phaseFrac p < 2 ^ 21 := Nat.mod_lt _ (by decide)
  have h := interpolate_between (memReadWt w (phaseIndex p)) (memReadWt w (phaseIndex p + 1)) hfrac
  rw [oscSample]
  omega

/-- Scaling by a level, at most full scale, does not enlarge a sample. -/
theorem asr_level_natAbs_le {x : Int} {b : Nat} (h : x.natAbs ≤ b) (level : Word) :
    (asr (x * level.toNat) 32).natAbs ≤ b := by
  have hlevel : (x * level.toNat).natAbs ≤ b * 2 ^ 32 := by
    rw [Int.natAbs_mul, Int.natAbs_natCast]
    exact Nat.mul_le_mul h level.isLt.le
  rw [asr]
  omega

/-- Nor does scaling by a 7-bit factor out of 127. -/
theorem tdiv_seven_natAbs_le {x : Int} {b : Nat} (h : x.natAbs ≤ b) (m : BitVec 7) :
    (tdiv (x * m.toNat) 127).natAbs ≤ b := by
  have hm : (x * m.toNat).natAbs ≤ b * 127 := by
    rw [Int.natAbs_mul, Int.natAbs_natCast]
    exact Nat.mul_le_mul h (Nat.le_of_lt_succ m.isLt)
  rw [tdiv, Int.natAbs_tdiv]
  exact Nat.div_le_of_le_mul (hm.trans_eq (Nat.mul_comm b 127))

theorem contribution_natAbs_le (s : State) (v : Fin 8) (l : Fin 4) : (s.contribution v l).natAbs ≤ 23488 := by
  unfold State.contribution
  split
  · exact tdiv_seven_natAbs_le (asr_level_natAbs_le (oscSample_natAbs_le _ _) _) _
  · simp

theorem fourSum_natAbs_le {f : Fin 4 → Int} {b : Nat} (h : ∀ l, (f l).natAbs ≤ b) :
    (Four.sum f).natAbs ≤ 4 * b := by
  have hf : ∀ l, -(b : Int) ≤ f l ∧ f l ≤ b := fun l => by have := h l; omega
  have := hf 0; have := hf 1; have := hf 2; have := hf 3
  rw [Four.sum]
  omega

theorem eightSum_natAbs_le {f : Fin 8 → Int} {b : Nat} (h : ∀ v, (f v).natAbs ≤ b) :
    (Eight.sum f).natAbs ≤ 8 * b := by
  have hf : ∀ v, -(b : Int) ≤ f v ∧ f v ≤ b := fun v => by have := h v; omega
  have := hf 0; have := hf 1; have := hf 2; have := hf 3
  have := hf 4; have := hf 5; have := hf 6; have := hf 7
  rw [Eight.sum]
  omega

/-- The mix before saturation is at most 8 * 4 * 23488 in magnitude (rule R339). -/
theorem mixSample_natAbs_le (s : State) : s.mixSample.natAbs ≤ mixBound :=
  tdiv_seven_natAbs_le (eightSum_natAbs_le fun v => fourSum_natAbs_le fun l => contribution_natAbs_le s v l) _

theorem sampleTicks_runPeak_le (n : Nat) {s : State} (h : s.runPeak.toNat ≤ mixBound) :
    (State.sampleTicks n s).runPeak.toNat ≤ mixBound := by
  induction n generalizing s with
  | zero => exact h
  | succ n ih =>
    refine ih ?_
    have hmix := mixSample_natAbs_le s
    rw [sampleTick_runPeak, BitVec.toNat_ofNat]
    exact (Nat.mod_le _ _).trans (max_le h hmix)

/-- PEAK after a block is the running peak at its end (rule R334), which is within the bound. -/
theorem blockState_peakBounded (s : State) (n : Nat) : (s.blockState n).peakBounded := by
  have h : (State.sampleTicks n s.startBlock).runPeak.toNat ≤ mixBound := sampleTicks_runPeak_le n (Nat.zero_le _)
  exact ⟨by simpa [State.blockState] using h, by simpa [State.blockState] using h⟩

theorem effect_peakBounded (i : Instr) {s : State} (h : s.peakBounded) : (effect i s).peakBounded := by
  by_cases hs : Synthesizes s i
  · obtain ⟨out, look, full, he⟩ := effect_of_synthesizes hs
    rw [he]
    exact blockState_peakBounded s _
  · obtain ⟨hpeak, hrun, -⟩ := effect_meters hs
    rwa [State.peakBounded, hpeak, hrun]

/-! ## The envelopes -/

/-- An IDLE envelope is at level 0 (10_state.md rule R42). -/
def LayerEnv.Silent (e : LayerEnv) : Prop := e.state = .idle → e.level = 0

theorem tick_silent (c : Config) (p : PatchLayer) (n : Nat) {e : LayerEnv} (h : e.Silent) : (e.tick c p n).Silent := by
  intro hidle
  obtain ⟨-, he⟩ | ⟨-, -, he, -⟩ | ⟨-, -, he, -⟩ | ⟨-, -, he, -⟩ | ⟨-, -, -, he, -⟩ | ⟨-, -, -, -, hlevel⟩ |
    ⟨-, -, he, -⟩ := tick_cases c p n e
  case inl => rw [he] at hidle ⊢; exact h hidle
  case inr.inr.inr.inr.inr.inl => exact hlevel
  all_goals simp [he] at hidle

theorem noteOn_silent (c : Config) (p : PatchLayer) (e : LayerEnv) : (e.noteOn c p).Silent := by
  simp [LayerEnv.Silent]

theorem releaseUnlessIdle_silent (c : Config) (p : PatchLayer) {e : LayerEnv} (h : e.Silent) :
    (e.releaseUnlessIdle c p).Silent := by
  obtain ⟨-, he⟩ | ⟨-, he⟩ := releaseUnlessIdle_cases c p e
  · rwa [he]
  · simp [he, LayerEnv.Silent]

/-- What every tick keeps of an envelope, a block keeps of it, in either tick mode. -/
theorem blockState_env_of_tick {P : LayerEnv → Prop} (htick : ∀ c p n e, P e → P (e.tick c p n)) (s : State) (n : Nat)
    (v : Fin 8) (l : Fin 4) (h : P (s.env v l)) : P ((s.blockState n).env v l) := by
  cases hmode : s.cfg.envTickMode with
  | perSample =>
    rw [blockState_env_perSample n s hmode]
    split
    · exact Function.Iterate.rec P h (fun e he => htick _ _ 1 e he) n
    · exact h
  | perBlock =>
    rw [blockState_env_perBlock n s hmode]
    split
    · exact htick _ _ n _ h
    · exact h

theorem effect_idleSilent (i : Instr) {s : State} (h : s.idleSilent) : (effect i s).idleSilent := by
  have hs : ∀ v l, (s.env v l).Silent := h
  intro v l
  change ((effect i s).env v l).Silent
  obtain he | ⟨n, k, -, he⟩ | ⟨n, -, he⟩ | ⟨-, he⟩ := effect_voices_cases i s
  · simpa [State.env, he] using hs v l
  · simp only [State.env, he, Eight.get_modify]
    split
    · rw [Voice.claim_env]
      split
      · exact noteOn_silent _ _ _
      · exact hs v l
    · exact hs v l
  · rw [State.env, he]
    obtain hv | hv := releaseVoice_get s (noteOfOperand n) v <;> rw [hv]
    · exact hs v l
    · rw [Voice.onActive_env]
      split
      · exact releaseUnlessIdle_silent _ _ (hs v l)
      · exact hs v l
  · rw [State.env, he]
    exact blockState_env_of_tick (fun c p n _ => tick_silent c p n) s _ v l (hs v l)

/-! ## The output -/

theorem blockOut_duplicated (s : State) (n : Nat) : duplicated (s.blockOut n) := by
  have h : ∀ t : State, duplicated (State.sampleOuts n t) := by
    induction n with
    | zero => simp [duplicated]
    | succ n ih =>
      intro t p hp
      rw [sampleOuts_succ, List.mem_cons] at hp
      obtain rfl | hp := hp
      · rfl
      · exact ih _ p hp
  exact h _

/-- LOOKAHEAD is left by a command, or filled with a block of BLOCK_LEN samples (rule R336). -/
theorem effect_lookahead_cases (i : Instr) (s : State) :
    (effect i s).lookahead = s.lookahead ∨ (effect i s).lookahead = s.blockOut s.cfg.blockLen := by
  by_cases hi : i = .poll
  · subst hi
    cases hf : s.lookaheadFull with
    | false => obtain hp | hp := pollState_of_empty hf <;> simp [hp, fillAhead_eq]
    | true => obtain ⟨-, hp⟩ | ⟨-, hp⟩ := pollState_of_full hf <;> simp [hp]
  · exact .inl (effect_lookahead hi).1

theorem effect_outputDuplicated (i : Instr) {s : State} (h : s.outputDuplicated) : (effect i s).outputDuplicated := by
  obtain ⟨hlook, hsink⟩ := h
  have happend : ∀ b, duplicated b → ∀ block ∈ s.sinkOut ++ [b], duplicated block := by
    intro b hb block hmem
    obtain hmem | rfl := by simpa using hmem
    · exact hsink block hmem
    · exact hb
  constructor
  · obtain he | he := effect_lookahead_cases i s <;> rw [he]
    · exact hlook
    · exact blockOut_duplicated s _
  · obtain he | ⟨n, he⟩ | he := effect_sinkOut i s <;> rw [he]
    · exact hsink
    · exact happend _ (blockOut_duplicated s n)
    · exact happend _ hlook

theorem effect_memoryWf (i : Instr) {s : State} (h : Memory.wf s = true) : Memory.wf (effect i s) = true := by
  simp only [Memory.wf, decide_eq_true_eq] at h ⊢
  obtain he | he := effect_lookahead_cases i s <;> simp [he, h]

/-! ## The patch -/

/-- A legal command writes legal indices (10_state.md rule R35). -/
theorem effect_patchLegal {i : Instr} {s : State} (hwf : i.wf s.cfg = true) (h : s.patchLegal) :
    (effect i s).patchLegal := by
  obtain ⟨hcfg, -⟩ := effect_frame i s
  intro l
  have hl := h l
  rw [hcfg, effect_patch_get]
  revert hwf hl
  generalize s.patch.get l = p
  fun_cases layerAfter i l p <;> simp_all [Instr.wf]

/-! ## The invariant -/

theorem effect_inv {i : Instr} {s : State} (hwf : i.wf s.cfg = true) (h : s.Inv) : (effect i s).Inv where
  cfgWf := by simpa using h.cfgWf
  memoryWf := effect_memoryWf i h.memoryWf
  patchLegal := effect_patchLegal hwf h.patchLegal
  idleSilent := effect_idleSilent i h.idleSilent
  peakBounded := effect_peakBounded i h.peakBounded
  outputDuplicated := effect_outputDuplicated i h.outputDuplicated

/-! ## The reset state -/

@[simp] theorem resetWith_layer (c : Config) (l : Fin 4) : (State.resetWith c).patch.get l = PatchLayer.reset l :=
  Four.get_ofFn _ l

@[simp] theorem resetWith_voice (c : Config) (v : Fin 8) : (State.resetWith c).voices.get v = Voice.reset :=
  Eight.get_ofFn _ v

@[simp] theorem resetWith_env (c : Config) (v : Fin 8) (l : Fin 4) : (State.resetWith c).env v l = LayerEnv.reset := by
  rw [State.env, resetWith_voice]
  exact Four.get_ofFn _ l

/-- The reset state of an admitted configuration is sound. -/
theorem resetWith_inv {c : Config} (h : c.wf = true) : (State.resetWith c).Inv where
  cfgWf := h
  memoryWf := resetWith_memoryWf c
  patchLegal := by
    intro l
    have h127 : 127 ≤ c.envMaxIndex := by
      rw [Config.envMaxIndex]
      cases c.envIndexBits <;> decide
    rw [resetWith_layer]
    exact ⟨(by decide : 1 ≤ 127).trans h127, (by decide : 5 ≤ 127).trans h127, h127⟩
  idleSilent := by simp [State.idleSilent, LayerEnv.reset]
  peakBounded := ⟨Nat.zero_le _, Nat.zero_le _⟩
  outputDuplicated := by
    refine ⟨fun p hp => ?_, by simp [State.resetWith]⟩
    rw [List.eq_of_mem_replicate hp]

/-- The invariant reads these seven fields. -/
theorem State.Inv.of_eq {s t : State} (h : s.Inv)
    (he : (t.cfg, t.patch, t.voices, t.peak, t.runPeak, t.lookahead, t.sinkOut) =
      (s.cfg, s.patch, s.voices, s.peak, s.runPeak, s.lookahead, s.sinkOut)) : t.Inv := by
  simp only [Prod.mk.injEq] at he
  obtain ⟨hcfg, hpatch, hvoices, hpeak, hrun, hlook, hsink⟩ := he
  constructor
  case cfgWf => simpa only [hcfg] using h.cfgWf
  case memoryWf => simpa only [Memory.wf, hcfg, hlook] using h.memoryWf
  case patchLegal => simpa only [State.patchLegal, hcfg, hpatch] using h.patchLegal
  case idleSilent => simpa only [State.idleSilent, State.env, hvoices] using h.idleSilent
  case peakBounded => simpa only [State.peakBounded, hpeak, hrun] using h.peakBounded
  case outputDuplicated => simpa only [State.outputDuplicated, hlook, hsink] using h.outputDuplicated

/-- Settles O20: the event comes off the port, and what follows is a legal command's effect, a rejection or a reset,
each of which keeps the invariant. -/
theorem everyStepKeepsTheInvariant : Obligations.EveryStepKeepsTheInvariant := by
  intro s t h hstep
  obtain ⟨-, rfl⟩ | ⟨w, ready, rest, -, hw⟩ | ⟨rest, -, rfl⟩ := step_cases hstep
  · exact h
  · have hconsumed : (s.consume ready rest).Inv := h.of_eq rfl
    obtain ⟨i, -, hwf, rfl⟩ | ⟨cause, rfl⟩ := execWord_cases hw
    · exact (effect_inv hwf hconsumed).of_eq rfl
    · exact hconsumed.of_eq rfl
  · exact (resetWith_inv h.cfgWf).of_eq rfl

end Sys2Proof.Machine
end

section
/-! SUPPORT. Two runs side by side. While LOOKAHEAD_FULL = 0 the stored pairs are not read (10_state.md rules R46, R58):
every operation commutes with replacing them. -/

namespace Sys2Proof.Machine

/-- `s` with other pairs in LOOKAHEAD. -/
def State.withLookahead (s : State) (b : List StereoPair) : State := { s with lookahead := b }

section withLookahead
variable (s : State) (b : List StereoPair)

theorem tickPerSample_withLookahead : (s.withLookahead b).tickPerSample = s.tickPerSample.withLookahead b := by
  simp only [State.tickPerSample, State.withLookahead]
  split <;> rfl

theorem tickPerBlock_withLookahead (n : Nat) :
    (s.withLookahead b).tickPerBlock n = (s.tickPerBlock n).withLookahead b := by
  simp only [State.tickPerBlock, State.withLookahead]
  split <;> rfl

theorem sampleTick_withLookahead : (s.withLookahead b).sampleTick = s.sampleTick.withLookahead b :=
  congrArg State.countSample (tickPerSample_withLookahead (s.meter s.mixSample).advancePhases b)

theorem sampleTicks_withLookahead (n : Nat) :
    State.sampleTicks n (s.withLookahead b) = (State.sampleTicks n s).withLookahead b := by
  induction n generalizing s with
  | zero => rfl
  | succ n ih => rw [sampleTicks_succ, sampleTicks_succ, sampleTick_withLookahead, ih]

theorem sampleOuts_withLookahead (n : Nat) : State.sampleOuts n (s.withLookahead b) = State.sampleOuts n s := by
  induction n generalizing s with
  | zero => rfl
  | succ n ih =>
    rw [sampleOuts_succ, sampleOuts_succ, sampleTick_withLookahead, ih]
    rfl

theorem blockState_withLookahead (n : Nat) : (s.withLookahead b).blockState n = (s.blockState n).withLookahead b := by
  have hticks := sampleTicks_withLookahead s.startBlock b n
  have hblock := tickPerBlock_withLookahead (State.sampleTicks n s.startBlock) b n
  rw [← hticks] at hblock
  exact congrArg State.latchPeak hblock

theorem blockOut_withLookahead (n : Nat) : (s.withLookahead b).blockOut n = s.blockOut n :=
  sampleOuts_withLookahead s.startBlock b n

theorem fillSink_withLookahead (n : Nat) : (s.withLookahead b).fillSink n = (s.fillSink n).withLookahead b := by
  rw [State.fillSink, blockState_withLookahead, blockOut_withLookahead]
  rfl

/-- A fill-ahead overwrites every stored pair. -/
theorem fillAhead_withLookahead : (s.withLookahead b).fillAhead = s.fillAhead := by
  have hlen : (s.withLookahead b).cfg.blockLen = s.cfg.blockLen := rfl
  rw [State.fillAhead, hlen, blockState_withLookahead, blockOut_withLookahead]
  rfl

theorem releaseVoice_withLookahead (n : BitVec 7) :
    (s.withLookahead b).releaseVoice n = (s.releaseVoice n).withLookahead b := by
  have hfind : (s.withLookahead b).findForNoteOff n = s.findForNoteOff n := rfl
  rw [State.releaseVoice, State.releaseVoice, hfind]
  split <;> rfl

/-- No command but POLL reads the stored pairs. -/
theorem effect_withLookahead {i : Instr} (h : i ≠ .poll) :
    effect i (s.withLookahead b) = (effect i s).withLookahead b := by
  cases i with
  | poll => exact absurd rfl h
  | render n => exact fillSink_withLookahead s b n.toNat
  | noteOff n => exact releaseVoice_withLookahead s b _
  | _ => rfl

end withLookahead

/-- Two outcomes that differ in LOOKAHEAD alone, and not at all when the buffer is full. -/
def SameButEmptyLookahead (t u : State) : Prop :=
  u = { t with lookahead := u.lookahead } ∧ (t.lookaheadFull = true → u = t)

theorem SameButEmptyLookahead.rfl (t : State) : SameButEmptyLookahead t t := ⟨Eq.refl t, fun _ => Eq.refl t⟩

theorem sameButEmptyLookahead_withLookahead {t : State} (h : t.lookaheadFull = false) (b : List StereoPair) :
    SameButEmptyLookahead t (t.withLookahead b) :=
  ⟨rfl, by simp [h]⟩

theorem SameButEmptyLookahead.advance {t u : State} (h : SameButEmptyLookahead t u) :
    SameButEmptyLookahead t.advance u.advance :=
  ⟨congrArg State.advance h.1, fun hfull => congrArg State.advance (h.2 hfull)⟩

section empty
variable {s : State} (b : List StereoPair) (h : s.lookaheadFull = false)
include h

/-- A POLL that finds the buffer empty emits a fresh block and leaves the pairs, or overwrites them. -/
theorem pollState_sameButEmptyLookahead : SameButEmptyLookahead s.pollState (s.withLookahead b).pollState := by
  have hfull : (s.withLookahead b).lookaheadFull = false := h
  have hready : (s.withLookahead b).sinkReady = s.sinkReady := rfl
  simp only [State.pollState, hfull, hready, h]
  cases s.sinkReady with
  | true =>
    change SameButEmptyLookahead (s.fillSink _) ((s.withLookahead b).fillSink s.cfg.blockLen)
    rw [fillSink_withLookahead]
    exact sameButEmptyLookahead_withLookahead (by simp [h]) b
  | false =>
    change SameButEmptyLookahead s.fillAhead (s.withLookahead b).fillAhead
    rw [fillAhead_withLookahead]
    exact .rfl _

theorem effect_sameButEmptyLookahead (i : Instr) :
    SameButEmptyLookahead (effect i s) (effect i (s.withLookahead b)) := by
  by_cases hi : i = .poll
  · subst hi
    exact pollState_sameButEmptyLookahead b h
  · rw [effect_withLookahead s b hi]
    exact sameButEmptyLookahead_withLookahead ((effect_lookahead hi).2.trans h) b

theorem execWord_sameButEmptyLookahead (w : Word) :
    ∃ t u, execWord w s = .next t ∧ execWord w (s.withLookahead b) = .next u ∧ SameButEmptyLookahead t u := by
  cases hd : decode w with
  | reject cause =>
    exact ⟨_, _, execWord_reject hd s, execWord_reject hd _,
      sameButEmptyLookahead_withLookahead (t := s.reject cause w) h b⟩
  | command i =>
    rw [execWord_command hd, execWord_command hd]
    cases hwf : i.wf s.cfg with
    | true => exact ⟨_, _, exec_wf hwf, exec_wf hwf, (effect_sameButEmptyLookahead b h i).advance⟩
    | false => exact ⟨_, _, exec_not_wf hwf, exec_not_wf hwf,
        sameButEmptyLookahead_withLookahead (t := s.reject (rangeCause i) (encode i)) h b⟩

end empty

/-- Settles O22: a reset overwrites the pairs, and a word is executed or rejected alike whatever they are. -/
theorem lookaheadIsUnobservableWhileEmpty : Obligations.LookaheadIsUnobservableWhileEmpty := by
  intro s other h
  change ∃ t u, step s = .next t ∧ step (s.withLookahead other) = .next u ∧ SameButEmptyLookahead t u
  have hport : (s.withLookahead other).port = s.port := rfl
  simp only [step, hport]
  match s.port with
  | [] => exact ⟨_, _, rfl, rfl, sameButEmptyLookahead_withLookahead h other⟩
  | .command w ready :: rest => exact execWord_sameButEmptyLookahead (s := s.consume ready rest) other h w
  | .reset :: rest => exact ⟨_, _, rfl, rfl, .rfl _⟩

end Sys2Proof.Machine
end

section
/-! SUPPORT. Two runs side by side: no operation but READ_REG reads the envelope of an inactive layer (10_state.md rules
R43, R44; 47_mixer.md rule R331). -/

namespace Sys2Proof.Machine

open Sys2Proof.Claims

/-! ## Voices that agree but for the envelopes of inactive layers -/

/-- The voices `x` and `y` are equal but for the envelopes of layers inactive in the patch `p`. -/
structure Voice.Agrees (p : Four PatchLayer) (x y : Voice) : Prop where
  note : y.note = x.note
  phase : y.phase = x.phase
  tune : y.tune = x.tune
  ts : y.ts = x.ts
  env : ∀ l, (p.get l).active = true → y.env.get l = x.env.get l

namespace Voice.Agrees
variable {p : Four PatchLayer} {x y : Voice}

theorem phaseAdvance (h : Voice.Agrees p x y) : Voice.Agrees p x.phaseAdvance y.phaseAdvance :=
  ⟨h.note, by simp [h.phase, h.tune], h.tune, h.ts, h.env⟩

/-- An operation on the envelopes of the active layers keeps the agreement, whatever it is. -/
theorem onActive (h : Voice.Agrees p x y) (f : PatchLayer → LayerEnv → LayerEnv) :
    Voice.Agrees p (x.onActive p f) (y.onActive p f) :=
  ⟨h.note, h.phase, h.tune, h.ts, fun l hl => by simp [hl, h.env l hl]⟩

theorem claim (h : Voice.Agrees p x y) (c : Config) (k : Word64) (n : BitVec 7) :
    Voice.Agrees p (x.claim c p k n) (y.claim c p k n) :=
  ⟨rfl, by simp [h.phase], rfl, rfl, fun l hl => by simp [hl, h.env l hl]⟩

end Voice.Agrees

/-- Two voice pools, voice by voice. -/
def PoolAgrees (p : Four PatchLayer) (x y : Eight Voice) : Prop := ∀ v, Voice.Agrees p (x.get v) (y.get v)

theorem PoolAgrees.ofFn {p : Four PatchLayer} {x y : Fin 8 → Voice} (h : ∀ v, Voice.Agrees p (x v) (y v)) :
    PoolAgrees p (Eight.ofFn x) (Eight.ofFn y) := fun v => by simpa using h v

theorem PoolAgrees.modify {p : Four PatchLayer} {x y : Eight Voice} (h : PoolAgrees p x y) (v : Fin 8)
    {f : Voice → Voice} (hf : ∀ a b, Voice.Agrees p a b → Voice.Agrees p (f a) (f b)) :
    PoolAgrees p (x.modify v f) (y.modify v f) := by
  intro u
  rw [Eight.get_modify, Eight.get_modify]
  split
  · exact hf _ _ (h u)
  · exact h u

/-! ## States with such voice pools -/

/-- `t` and `t'` are equal but for envelopes of layers inactive in the patch `p`. -/
def Agrees (p : Four PatchLayer) (t t' : State) : Prop :=
  ∃ w, t' = { t with voices := w } ∧ PoolAgrees p t.voices w

/-- The statements' relation is this one, for the patch of `s`. -/
theorem agreeOutside_iff (s t t' : State) : agreeOutside s t t' ↔ Agrees s.patch t t' := by
  have hactive : ∀ l, isActive s l ↔ (s.patch.get l).active = true := by
    intro l
    simp [isActive, PatchLayer.active, Option.isSome_iff_ne_none]
  constructor
  · rintro ⟨ht', hv⟩
    refine ⟨_, ht', fun v => ?_⟩
    obtain ⟨hnote, hphase, htune, hts, henv⟩ := hv v
    exact ⟨hnote, hphase, htune, hts, fun l hl => henv l ((hactive l).mpr hl)⟩
  · rintro ⟨w, rfl, hw⟩
    exact ⟨rfl, fun v => ⟨(hw v).note, (hw v).phase, (hw v).tune, (hw v).ts,
      fun l hl => (hw v).env l ((hactive l).mp hl)⟩⟩

section
variable {p : Four PatchLayer} {t t' : State} (hp : t.patch = p)
include hp

/-! ## What reads the voices reads the same in both: the mix and the two selections -/

theorem Agrees.mixSample (h : Agrees p t t') : t'.mixSample = t.mixSample := by
  subst hp
  obtain ⟨w, rfl, hw⟩ := h
  have hlayer : ∀ v l, State.contribution { t with voices := w } v l = t.contribution v l := by
    intro v l
    cases hshape : (t.patch.get l).shape with
    | none => simp [State.contribution, hshape]
    | some wave =>
      simp [State.contribution, State.env, hshape, (hw v).phase, (hw v).env l (by simp [PatchLayer.active, hshape])]
  simp [State.mixSample, State.mixSum, hlayer]

theorem Agrees.free (h : Agrees p t t') : t'.free = t.free := by
  subst hp
  obtain ⟨w, rfl, hw⟩ := h
  funext v
  refine congrArg layerOrder.all (funext fun l => ?_)
  change (!t.active l || decide (((w.get v).env.get l).state = .idle)) = _
  cases hl : t.active l with
  | false => rfl
  | true => rw [(hw v).env l hl]; rfl

theorem Agrees.sounding (h : Agrees p t t') : t'.sounding = t.sounding := by
  subst hp
  obtain ⟨w, rfl, hw⟩ := h
  funext v
  refine congrArg layerOrder.any (funext fun l => ?_)
  change (t.active l && ((w.get v).env.get l).state.soundingState) = _
  cases hl : t.active l with
  | false => rfl
  | true => rw [(hw v).env l hl]; rfl

omit hp in
theorem Agrees.older (h : Agrees p t t') : t'.older = t.older := by
  obtain ⟨w, rfl, hw⟩ := h
  have hts : State.tsOf { t with voices := w } = t.tsOf := funext fun v => congrArg BitVec.toNat (hw v).ts
  funext a b
  rw [State.older, State.older, hts]

theorem Agrees.findNext (h : Agrees p t t') : t'.findNext = t.findNext := by
  simp only [State.findNext, State.oldestVoice, h.free hp, h.older]

theorem Agrees.findForNoteOff (h : Agrees p t t') (n : BitVec 7) : t'.findForNoteOff n = t.findForNoteOff n := by
  have hnote : ∀ v, (t'.voices.get v).note = (t.voices.get v).note := by
    obtain ⟨w, rfl, hw⟩ := h
    exact fun v => (hw v).note
  have hscan : t'.olderHolding n = t.olderHolding n := by
    funext best v
    simp only [State.olderHolding, hnote, h.sounding hp, h.older]
  rw [State.findForNoteOff, State.findForNoteOff, hscan]

/-! ## What writes the voices keeps the agreement -/

omit hp in
/-- An operation on the other fields, the same in both states, keeps the agreement. -/
theorem Agrees.map (h : Agrees p t t') (f : State → State)
    (hvoices : ∀ s, (f s).voices = s.voices := by exact fun _ => rfl)
    (hf : ∀ s w, f { s with voices := w } = { f s with voices := w } := by exact fun _ _ => rfl) :
    Agrees p (f t) (f t') := by
  obtain ⟨w, rfl, hw⟩ := h
  exact ⟨w, hf t w, by rwa [hvoices]⟩

omit hp in
theorem Agrees.advancePhases (h : Agrees p t t') : Agrees p t.advancePhases t'.advancePhases := by
  obtain ⟨w, rfl, hw⟩ := h
  exact ⟨_, rfl, .ofFn fun v => (hw v).phaseAdvance⟩

theorem Agrees.tickEnvelopes (h : Agrees p t t') (n : Nat) : Agrees p (t.tickEnvelopes n) (t'.tickEnvelopes n) := by
  subst hp
  obtain ⟨w, rfl, hw⟩ := h
  exact ⟨_, rfl, .ofFn fun v => (hw v).onActive _⟩

theorem Agrees.claimVoice (h : Agrees p t t') (n : BitVec 7) : Agrees p (t.claimVoice n) (t'.claimVoice n) := by
  have hnext := h.findNext hp
  subst hp
  obtain ⟨w, rfl, hw⟩ := h
  rw [State.claimVoice, State.claimVoice, hnext]
  exact ⟨_, rfl, hw.modify _ fun _ _ hv => hv.claim _ _ _⟩

theorem Agrees.releaseVoice (h : Agrees p t t') (n : BitVec 7) : Agrees p (t.releaseVoice n) (t'.releaseVoice n) := by
  have hfind := h.findForNoteOff hp n
  subst hp
  obtain ⟨w, rfl, hw⟩ := h
  rw [State.releaseVoice, State.releaseVoice, hfind]
  split
  · exact ⟨w, rfl, hw⟩
  · exact ⟨_, rfl, hw.modify _ fun _ _ hv => hv.onActive _⟩

/-! ## Samples, blocks and fills -/

omit hp in
theorem Agrees.cfg (h : Agrees p t t') : t'.cfg = t.cfg := by
  obtain ⟨w, rfl, -⟩ := h
  rfl

theorem Agrees.tickPerSample (h : Agrees p t t') : Agrees p t.tickPerSample t'.tickPerSample := by
  rw [State.tickPerSample, State.tickPerSample, h.cfg]
  split
  · exact h.tickEnvelopes hp 1
  · exact h

theorem Agrees.tickPerBlock (h : Agrees p t t') (n : Nat) : Agrees p (t.tickPerBlock n) (t'.tickPerBlock n) := by
  rw [State.tickPerBlock, State.tickPerBlock, h.cfg]
  split
  · exact h
  · exact h.tickEnvelopes hp n

theorem Agrees.sampleTick (h : Agrees p t t') : Agrees p t.sampleTick t'.sampleTick := by
  rw [State.sampleTick, State.sampleTick, h.mixSample hp]
  have hmeter := (h.map (State.meter · t.mixSample)).advancePhases
  exact (hmeter.tickPerSample (t := (t.meter t.mixSample).advancePhases) hp).map State.countSample

theorem Agrees.sampleTicks (h : Agrees p t t') (n : Nat) :
    Agrees p (State.sampleTicks n t) (State.sampleTicks n t') := by
  induction n generalizing t t' with
  | zero => exact h
  | succ n ih => exact ih ((sampleTick_same t).patch.trans hp) (h.sampleTick hp)

theorem Agrees.sampleOuts (h : Agrees p t t') (n : Nat) : State.sampleOuts n t' = State.sampleOuts n t := by
  induction n generalizing t t' with
  | zero => rfl
  | succ n ih =>
    rw [sampleOuts_succ, sampleOuts_succ, ih ((sampleTick_same t).patch.trans hp) (h.sampleTick hp), State.sampleOut,
      State.sampleOut, h.mixSample hp]

theorem Agrees.blockState (h : Agrees p t t') (n : Nat) : Agrees p (t.blockState n) (t'.blockState n) := by
  have hticks := (h.map State.startBlock).sampleTicks (t := t.startBlock) hp n
  have hblock := hticks.tickPerBlock ((sampleTicks_same n t.startBlock).patch.trans hp) n
  exact hblock.map State.latchPeak

theorem Agrees.blockOut (h : Agrees p t t') (n : Nat) : t'.blockOut n = t.blockOut n :=
  (h.map State.startBlock).sampleOuts (t := t.startBlock) hp n

theorem Agrees.fillSink (h : Agrees p t t') (n : Nat) : Agrees p (t.fillSink n) (t'.fillSink n) := by
  rw [State.fillSink, State.fillSink, h.blockOut hp]
  exact (h.blockState hp n).map (State.emitSink · _)

theorem Agrees.fillAhead (h : Agrees p t t') : Agrees p t.fillAhead t'.fillAhead := by
  rw [State.fillAhead, State.fillAhead, h.cfg, h.blockOut hp]
  exact (h.blockState hp _).map (State.storeLookahead · _)

theorem Agrees.pollState (h : Agrees p t t') : Agrees p t.pollState t'.pollState := by
  have hinputs : t'.sinkReady = t.sinkReady ∧ t'.lookaheadFull = t.lookaheadFull := by
    obtain ⟨w, rfl, -⟩ := h
    exact ⟨rfl, rfl⟩
  rw [State.pollState, State.pollState, hinputs.1, hinputs.2]
  split
  · exact h.map State.copyLookahead
  · exact h.cfg ▸ h.fillSink hp _
  · exact h.fillAhead hp
  · exact h.map State.dropout

/-! ## Commands -/

theorem Agrees.effect (h : Agrees p t t') {i : Instr} (hi : ∀ a, i ≠ .readReg a) :
    Agrees p (effect i t) (Machine.effect i t') := by
  cases i with
  | readReg a => exact absurd rfl (hi a)
  | noteOn n k => exact h.claimVoice hp _
  | noteOff n => exact h.releaseVoice hp _
  | render n => exact h.fillSink hp _
  | poll => exact h.pollState hp
  | _ => exact h.map (Machine.effect _)

end

/-- Settles O18: a command is legal in both states or in neither, and its effect and a rejection keep the agreement. -/
theorem inactiveLayersAreNotRead : Obligations.InactiveLayersAreNotRead := by
  intro i s s' hi h
  rw [agreeOutside_iff] at h
  simp only [agreeOutside_iff, exec_eq, h.cfg]
  cases i.wf s.cfg with
  | true => exact ⟨_, _, rfl, rfl, (h.effect rfl hi).map State.advance⟩
  | false => exact ⟨_, _, rfl, rfl, h.map (State.reject · _ _)⟩

end Sys2Proof.Machine
end

section
/-! SUPPORT. The register map of READ_REG, address by address (10_state.md rules R47, R50 to R53), and the reset values
(rules R56 to R58). -/

namespace Sys2Proof.Machine

open Sys2Proof.Claims

/-! ## Addresses -/

theorem regValue_ofNat (s : State) {a : Nat} (h : a < 2 ^ 12) :
    regValue s (BitVec.ofNat 12 a) = .ofNat 32 (regNat s a) := by
  rw [regValue, BitVec.toNat_ofNat, Nat.mod_eq_of_lt h]

/-- Field `f` of layer `l` of the patch stands at 0x010 + 8 l + f (rule R51). -/
theorem regValue_patch (s : State) (l : Fin 4) {f : Nat} (h : f < 8) :
    regValue s (BitVec.ofNat 12 (0x010 + 8 * l.val + f)) = .ofNat 32 (patchValue (s.patch.get l) f) := by
  have hlayer : Fin.ofNat 4 ((0x010 + 8 * l.val + f - 0x010) / 8) = l := by
    ext; simp only [Fin.val_ofNat]; omega
  have hfield : (0x010 + 8 * l.val + f - 0x010) % 8 = f := by omega
  rw [regValue_ofNat s (by omega), regNat, if_neg (by omega), if_pos (by omega), hlayer, hfield]

/-- Offset `o` of voice `v` stands at 0x100 + 0x20 v + o (rule R52). -/
theorem regValue_voice (s : State) (v : Fin 8) {o : Nat} (h : o < 0x20) :
    regValue s (BitVec.ofNat 12 (0x100 + 0x20 * v.val + o)) = .ofNat 32 (voiceValue (s.voices.get v) o) := by
  have hvoice : Fin.ofNat 8 ((0x100 + 0x20 * v.val + o - 0x100) / 0x20) = v := by
    ext; simp only [Fin.val_ofNat]; omega
  have hoffset : (0x100 + 0x20 * v.val + o - 0x100) % 0x20 = o := by omega
  rw [regValue_ofNat s (by omega), regNat, if_neg (by omega), if_neg (by omega), if_neg (by omega), if_pos (by omega),
    hvoice, hoffset]

/-- The offsets of a voice from 0x05 on name the envelopes, from 0x08 to 0x17, and nothing else. -/
theorem voiceValue_high (v : Voice) {o : Nat} (h : 5 ≤ o) :
    voiceValue v o =
      if 0x08 ≤ o ∧ o ≤ 0x17 then envValue (v.env.get (Fin.ofNat 4 ((o - 0x08) / 4))) ((o - 0x08) % 4) else 0 := by
  match o, h with
  | n + 5, _ => rfl

/-- Field `g` of the envelope of layer `l` stands at offset 0x08 + 4 l + g of its voice. -/
theorem regValue_env (s : State) (v : Fin 8) (l : Fin 4) {g : Nat} (h : g < 4) :
    regValue s (BitVec.ofNat 12 (0x100 + 0x20 * v.val + 0x08 + 4 * l.val + g))
      = .ofNat 32 (envValue (s.env v l) g) := by
  have hlayer : Fin.ofNat 4 ((0x08 + 4 * l.val + g - 0x08) / 4) = l := by
    ext; simp only [Fin.val_ofNat]; omega
  have hfield : (0x08 + 4 * l.val + g - 0x08) % 4 = g := by omega
  have hsum : 0x100 + 0x20 * v.val + 0x08 + 4 * l.val + g = 0x100 + 0x20 * v.val + (0x08 + 4 * l.val + g) := by omega
  rw [hsum, regValue_voice s v (by omega), voiceValue_high _ (by omega), if_pos (by omega), hlayer, hfield]
  rfl

/-! ## Values -/

theorem ofNat_toNat_word (w : Word) : BitVec.ofNat 32 w.toNat = w := by simp

theorem ofNat_mod_eq_extractLsb' (x : Word64) : BitVec.ofNat 32 (x.toNat % 2 ^ 32) = x.extractLsb' 0 32 := by
  apply BitVec.eq_of_toNat_eq
  simp

theorem ofNat_div_eq_extractLsb' (x : Word64) : BitVec.ofNat 32 (x.toNat / 2 ^ 32) = x.extractLsb' 32 32 := by
  rw [BitVec.extractLsb', Nat.shiftRight_eq_div_pow]

theorem toNat_shapeCode (w : Option Wave) : (BitVec.ofNat 32 (shapeCode w)).toNat = shapeNumber w := by
  match w with
  | none | some .sine | some .square | some .triangle | some .ramp => rfl

theorem toNat_stateCode (e : EnvState) : (BitVec.ofNat 32 e.code).toNat = stateNumber e := by cases e <;> rfl

theorem toNat_causeCode (c : RejectCause) : (BitVec.ofNat 32 (causeCode c)).toNat = causeNumber c := by cases c <;> rfl

/-- The operands of CONFIG fit their fields (rule R47). -/
theorem configWord_eq (c : Config) : ∃ width mode reset rate, width < 2 ^ 4 ∧ mode < 2 ∧ reset < 2 ∧ rate < 2 ∧
    configWord c = 8 + 4 * 2 ^ 8 + width * 2 ^ 12 + mode * 2 ^ 16 + reset * 2 ^ 17 + rate * 2 ^ 18 ∧
    width = (match c.envIndexBits with | .bits7 => 7 | .bits14 => 14) ∧
    mode = (match c.envTickMode with | .perSample => 0 | .perBlock => 1) ∧
    reset = (if c.phaseResetOnNoteOn then 1 else 0) ∧ rate = c.envRateMin.val := by
  refine ⟨c.envIndexBits.width, _, _, _, ?_, ?_, ?_, c.envRateMin.isLt, rfl, rfl, rfl, rfl, rfl⟩
  · cases c.envIndexBits <;> decide
  · cases c.envTickMode <;> decide
  · split <;> decide

theorem configWord_lt (c : Config) : configWord c < 2 ^ 32 := by
  obtain ⟨width, mode, reset, rate, hwidth, hmode, hreset, hrate, hword, -⟩ := configWord_eq c
  omega

theorem regValue_config (s : State) : regValue s 0x007 = .ofNat 32 (configWord s.cfg) := rfl

theorem bitsOf_regValue_config (s : State) (lo len : Nat) :
    bitsOf (regValue s 0x007) lo len = configWord s.cfg / 2 ^ lo % 2 ^ len := by
  rw [bitsOf_eq_field, regValue_config, field_ofNat (configWord_lt s.cfg)]

theorem toNat_regValue_config (s : State) : (regValue s 0x007).toNat = configNumber s.cfg := by
  rw [regValue_config, BitVec.toNat_ofNat, Nat.mod_eq_of_lt (configWord_lt s.cfg)]
  rfl

/-! ## Addresses that name no register (rule R53) -/

theorem globalValue_unnamed (s : State) {a : Nat} (h : 0x00B < a) : globalValue s a = 0 := by
  match a, h with
  | n + 12, _ => rfl

theorem patchValue_unnamed (p : PatchLayer) {f : Nat} (h : 5 < f) : patchValue p f = 0 := by
  match f, h with
  | n + 6, _ => rfl

theorem voiceValue_unnamed (v : Voice) {o : Nat} (hlow : 0x04 < o)
    (henv : 0x08 ≤ o → o < 0x18 → (o - 0x08) % 4 = 3) : voiceValue v o = 0 := by
  rw [voiceValue_high v hlow]
  split
  · rw [henv (by omega) (by omega)]
    rfl
  · rfl

theorem regNat_unnamed (s : State) {a : Nat} (h : ¬ namedAddress a) : regNat s a = 0 := by
  simp only [namedAddress, not_or, not_and, not_not] at h
  obtain ⟨hglobal, hpatch, hvoice⟩ := h
  unfold regNat
  split_ifs
  · exact globalValue_unnamed s (by omega)
  · exact patchValue_unnamed _ (by have := hpatch (by omega) (by omega); omega)
  · rfl
  · obtain ⟨hlow, henv⟩ := hvoice (by omega) (by omega)
    exact voiceValue_unnamed _ (by omega) henv
  · rfl

/-! ## The obligations -/

/-- Settles O53: each address by the lemma of its region, each value by the lemma of its code. -/
theorem registerMap : Obligations.RegisterMap := by
  intro s
  refine ⟨⟨BitVec.ofNat_toNat 32 _, ofNat_toNat_word _, ofNat_toNat_word _, ofNat_toNat_word _, ?full,
    ofNat_mod_eq_extractLsb' _, ofNat_div_eq_extractLsb' _, toNat_regValue_config s,
    fun h => Nat.mod_eq_of_lt (h.trans (by decide)), fun h => Nat.mod_eq_of_lt h, toNat_causeCode _,
      ofNat_toNat_word _⟩,
    fun l => ?patch, fun v => ?voice, fun v l => ?env, fun a ha => ?unnamed, fun _ => rfl⟩
  case full =>
    change BitVec.ofNat 32 (if s.lookaheadFull then 1 else 0) = _
    split <;> rfl
  case patch =>
    simp only [regValue_patch s l (f := 0) (by decide), regValue_patch s l (f := 1) (by decide),
      regValue_patch s l (f := 2) (by decide), regValue_patch s l (f := 3) (by decide),
      regValue_patch s l (f := 4) (by decide), regValue_patch s l (f := 5) (by decide)]
    exact ⟨toNat_shapeCode _, BitVec.ofNat_toNat 32 _, BitVec.ofNat_toNat 32 _, ofNat_toNat_word _,
      BitVec.ofNat_toNat 32 _, BitVec.ofNat_toNat 32 _⟩
  case voice =>
    simp only [regValue_voice s v (o := 0) (by decide), regValue_voice s v (o := 1) (by decide),
      regValue_voice s v (o := 2) (by decide), regValue_voice s v (o := 3) (by decide),
      regValue_voice s v (o := 4) (by decide)]
    exact ⟨BitVec.ofNat_toNat 32 _, ofNat_toNat_word _, ofNat_toNat_word _, ofNat_mod_eq_extractLsb' _,
      ofNat_div_eq_extractLsb' _⟩
  case env =>
    simp only [regValue_env s v l (g := 0) (by decide), regValue_env s v l (g := 1) (by decide),
      regValue_env s v l (g := 2) (by decide)]
    exact ⟨toNat_stateCode _, ofNat_toNat_word _, ofNat_toNat_word _⟩
  case unnamed => exact congrArg (BitVec.ofNat 32) (regNat_unnamed s ha)

/-- Settles O10, from the reset value of a voice, of a descriptor and of an envelope. -/
theorem resetValuesOfVoicesAndPatch : Obligations.ResetValuesOfVoicesAndPatch := by
  intro c
  simp only [resetWith_voice, resetWith_layer, resetWith_env]
  exact ⟨fun _ => ⟨rfl, rfl, rfl, rfl⟩, fun _ _ => rfl, rfl, fun l hl => if_neg hl,
    fun _ => ⟨rfl, rfl, rfl, rfl, rfl⟩, rfl⟩

/-- Settles O11: each value is written out in `State.resetWith`. -/
theorem resetValuesOfGlobals : Obligations.ResetValuesOfGlobals :=
  fun _ => ⟨rfl, rfl, rfl, rfl, rfl, rfl, rfl, rfl, rfl, rfl⟩

/-- Settles O54: the operands of CONFIG fit their fields, so each stands at its bits; and no step writes a parameter. -/
theorem configRegisterFields : Obligations.ConfigRegisterFields := by
  intro s
  obtain ⟨width, mode, reset, rate, hwidth, hmode, hreset, hrate, hword, hw, hm, hr, hk⟩ := configWord_eq s.cfg
  simp only [bitsOf_regValue_config]
  refine ⟨by omega, by omega, .trans (by omega) hw, .trans (by omega) hm, .trans (by omega) hr, .trans (by omega) hk,
    by omega, rfl, rfl, fun hbits htick hphase hmin => ?default, fun t ht => ?step⟩
  case default =>
    simp only [hbits, htick, hphase, hmin, Bool.false_eq_true, if_false, Fin.val_zero] at hw hm hr hk
    have hvalue : configWord s.cfg = 0x7408 := by omega
    exact congrArg (BitVec.ofNat 32) hvalue
  case step =>
    have hcfg := step_cfg ht
    exact ⟨congrArg (BitVec.ofNat 32 ∘ configWord) hcfg, congrArg (BitVec.ofNat 32 ∘ Config.blockLen) hcfg,
      congrArg (BitVec.ofNat 32 ∘ Config.sampleRate) hcfg⟩

end Sys2Proof.Machine
end

section
/-! SUPPORT. The read commands: what a legal read appends to RESP_OUT, and that it writes nothing else but CP
(20_memory.md rules R86, R87). -/

namespace Sys2Proof.Machine

/-- A legal command whose effect is a response ends with that response and the advance of CP. -/
theorem exec_of_effect_eq_respond {i : Instr} {s : State} {r : Word} (hwf : i.wf s.cfg = true)
    (heffect : effect i s = s.respond r) :
    exec i s = .next { s with respOut := s.respOut ++ [r], cp := s.cp + 1 } := by
  rw [exec_wf hwf, heffect]
  rfl

/-- A wavetable entry fits the signed response word (41_wavetable_rom.md rules R160, R163). -/
theorem toInt_ofInt_memReadWt (w : Wave) (i : Nat) : (BitVec.ofInt 32 (memReadWt w i)).toInt = memReadWt w i := by
  have hrange := memReadWt_range w i
  exact BitVec.toInt_ofInt_eq_self (by decide) (by omega) (by omega)

/-- Settles O52: a legal operand makes each read well-formed, its effect is one response, and a wavetable entry fits the
signed word. -/
theorem readsRespondAndWriteNothingElse : Obligations.ReadsRespondAndWriteNothingElse := by
  intro s
  refine ⟨fun a => ?reg, fun w i hi => ⟨.ofInt 32 (memReadWt w i.toNat), toInt_ofInt_memReadWt w _, ?wt⟩,
    fun n hn => ?pitch, fun i hi => ?envlut⟩
  case reg => exact exec_of_effect_eq_respond rfl rfl
  case wt => exact exec_of_effect_eq_respond (decide_eq_true hi) rfl
  case pitch => exact exec_of_effect_eq_respond (decide_eq_true hn) rfl
  case envlut => exact exec_of_effect_eq_respond (decide_eq_true hi) rfl

end Sys2Proof.Machine
end

section
/-! SUPPORT. The opcode map of 30_encoding.md rule R123: a row's match and mask say what the opcode, the reserved-zero
bits and the selector of its words are, and the decoder reads the same three. -/

namespace Sys2Proof.Machine

open Sys2Proof.Claims

/-! ## Words that agree under a mask -/

theorem field_xor (w v : Word) (lo len : Nat) : field (w ^^^ v) lo len = field w lo len ^^^ field v lo len := by
  simp only [← bitsOf_eq_field, bitsOf, BitVec.extractLsb'_xor, BitVec.toNat_xor]

theorem and_eq_and_iff (w v m : Word) : w &&& m = v &&& m ↔ (w ^^^ v) &&& m = 0#32 := by
  have hdistrib : (w ^^^ v) &&& m = (w &&& m) ^^^ (v &&& m) := by
    ext i; simp [Bool.and_xor_distrib_right]
  rw [hdistrib, BitVec.xor_eq_zero_iff]

theorem and_fieldMask_eq_iff (w v : Word) {lo len : Nat} (h : lo + len ≤ 32) :
    w &&& fieldMask lo len = v &&& fieldMask lo len ↔ field w lo len = field v lo len := by
  rw [and_eq_and_iff, and_fieldMask_eq_zero _ h, field_xor, Nat.xor_eq_zero_iff]

theorem and_or_eq_iff (w v m m' : Word) :
    w &&& (m ||| m') = v &&& (m ||| m') ↔ w &&& m = v &&& m ∧ w &&& m' = v &&& m' := by
  rw [and_eq_and_iff, BitVec.and_or_distrib_left, BitVec.or_eq_zero_iff, ← and_eq_and_iff, ← and_eq_and_iff]

/-! ## The rows -/

/-- The selector of a word of opcode `op`: TGT of format C, PRM of format L (rules R121, R122); the others have none. -/
def selector (w : Word) : Nat → Nat
  | 3 => field w 24 3
  | 4 => field w 20 3
  | _ => 0

/-- The bits of that selector. -/
def selectorMask : Nat → Word
  | 3 => fieldMask 24 3
  | 4 => fieldMask 20 3
  | _ => 0

theorem and_selectorMask_eq_iff (w v : Word) (op : Nat) :
    w &&& selectorMask op = v &&& selectorMask op ↔ selector w op = selector v op := by
  unfold selectorMask selector
  split
  · exact and_fieldMask_eq_iff w v (by decide)
  · exact and_fieldMask_eq_iff w v (by decide)
  · simp

/-- The opcode of a row (rule R123). -/
def rowOpcode : Instr → Nat
  | .nop => 0
  | .noteOn _ _ => 1
  | .noteOff _ => 2
  | .ctrlAttack _ | .ctrlDecay _ | .ctrlSustain _ | .ctrlRelease _ | .ctrlGain _ => 3
  | .layerShape _ _ | .layerAttack _ _ | .layerDecay _ _ | .layerSustain _ _ | .layerRelease _ _ | .layerMix _ _ => 4
  | .render _ => 5
  | .poll => 6
  | .readReg _ => 7
  | .readWt _ _ => 8
  | .readPitch _ => 9
  | .readEnvlut _ => 10

/-- The selector of a row (rules R121, R122). -/
def rowSelector : Instr → Nat
  | .ctrlDecay _ | .layerAttack _ _ => 1
  | .ctrlSustain _ | .layerDecay _ _ => 2
  | .ctrlRelease _ | .layerSustain _ _ => 3
  | .ctrlGain _ | .layerRelease _ _ => 4
  | .layerMix _ _ => 5
  | _ => 0

theorem rowOpcode_lt (row : Instr) : rowOpcode row < 11 := by
  cases row <;> simp [rowOpcode]

theorem opcodeMask_eq (row : Instr) :
    row.opcodeMask = fieldMask 28 4 ||| (reservedMask (rowOpcode row) ||| selectorMask (rowOpcode row)) := by
  cases row <;> simp only [Instr.opcodeMask, rowOpcode, reservedMask, selectorMask] <;> decide

theorem opcodeMatch_and_opcodeMask (row : Instr) : row.opcodeMatch &&& row.opcodeMask = row.opcodeMatch := by
  cases row <;> simp only [Instr.opcodeMatch, Instr.opcodeMask, -BitVec.reduceAnd] <;> decide

theorem field_opcodeMatch (row : Instr) : field row.opcodeMatch 28 4 = rowOpcode row := by
  cases row <;> simp [Instr.opcodeMatch, rowOpcode, field]

theorem opcodeMatch_and_reservedMask (row : Instr) : row.opcodeMatch &&& reservedMask (rowOpcode row) = 0 := by
  cases row <;> simp [Instr.opcodeMatch, rowOpcode, reservedMask]

theorem selector_opcodeMatch (row : Instr) : selector row.opcodeMatch (rowOpcode row) = rowSelector row := by
  cases row <;> simp [Instr.opcodeMatch, rowOpcode, rowSelector, selector, field]

/-- What `(w & mask) = match` says of a word: the row's opcode, zeros in the reserved bits, the row's selector. -/
theorem and_opcodeMask_eq_iff (w : Word) (row : Instr) :
    w &&& row.opcodeMask = row.opcodeMatch ↔
      field w 28 4 = rowOpcode row ∧ reservedFields w (rowOpcode row) = 0 ∧
        selector w (rowOpcode row) = rowSelector row := by
  have hmasked : w &&& row.opcodeMask = row.opcodeMatch ↔
      w &&& row.opcodeMask = row.opcodeMatch &&& row.opcodeMask := by rw [opcodeMatch_and_opcodeMask]
  rw [hmasked, opcodeMask_eq, and_or_eq_iff, and_or_eq_iff, and_fieldMask_eq_iff _ _ (by decide), field_opcodeMatch,
    opcodeMatch_and_reservedMask, and_reservedMask_eq_zero w (rowOpcode_lt row), and_selectorMask_eq_iff,
    selector_opcodeMatch]

/-! ## The decoder and the rows -/

theorem row_of_decodeCtrl {tgt : Nat} {value : Index14} {i : Instr} (h : decodeCtrl tgt value = .command i) :
    rowOpcode i = 3 ∧ rowSelector i = tgt := by
  match tgt with
  | 0 | 1 | 2 | 3 | 4 => cases h; exact ⟨rfl, rfl⟩
  | n + 5 => cases h

theorem row_of_decodeLayer {prm : Nat} {layer : Fin 4} {value : Index14} {i : Instr}
    (h : decodeLayer prm layer value = .command i) : rowOpcode i = 4 ∧ rowSelector i = prm := by
  match prm with
  | 0 | 1 | 2 | 3 | 4 | 5 => cases h; exact ⟨rfl, rfl⟩
  | n + 6 => cases h

/-- The row of a decoded command has the opcode and the selector of the word. -/
theorem row_of_decodeFields {w : Word} {op : Nat} {i : Instr} (hop : op < 11) (h : decodeFields w op = .command i) :
    rowOpcode i = op ∧ rowSelector i = selector w op := by
  match op, hop with
  | 3, _ => exact row_of_decodeCtrl h
  | 4, _ => exact row_of_decodeLayer h
  | 0, _ | 1, _ | 2, _ | 5, _ | 6, _ | 7, _ | 8, _ | 9, _ | 10, _ => cases h; exact ⟨rfl, rfl⟩

theorem and_opcodeMask_of_decode {w : Word} {i : Instr} (h : decode w = .command i) :
    w &&& i.opcodeMask = i.opcodeMatch := by
  obtain ⟨hop, hzero, hfields⟩ := decode_command h
  obtain ⟨hopcode, hselector⟩ := row_of_decodeFields hop hfields
  exact (and_opcodeMask_eq_iff w i).mpr (by rw [hopcode]; exact ⟨rfl, hzero, hselector.symm⟩)

/-- With a row's opcode and selector, the operands are those of a command of that row. -/
theorem decodeFields_of_row {w : Word} {row : Instr} (h : selector w (rowOpcode row) = rowSelector row) :
    ∃ i, decodeFields w (rowOpcode row) = .command i ∧
      i.opcodeMatch = row.opcodeMatch ∧ i.opcodeMask = row.opcodeMask := by
  cases row with
  | ctrlAttack | ctrlDecay | ctrlSustain | ctrlRelease | ctrlGain =>
    exact ⟨_, congrArg (decodeCtrl · (.ofNat 14 (field w 0 14))) h, rfl, rfl⟩
  | layerShape | layerAttack | layerDecay | layerSustain | layerRelease | layerMix =>
    exact ⟨_, congrArg (decodeLayer · (Fin.ofNat 4 (field w 24 2)) (.ofNat 14 (field w 0 14))) h, rfl, rfl⟩
  | nop | noteOn | noteOff | render | poll | readReg | readWt | readPitch | readEnvlut => exact ⟨_, rfl, rfl, rfl⟩

theorem decode_of_and_opcodeMask {w : Word} {row : Instr} (h : w &&& row.opcodeMask = row.opcodeMatch) :
    ∃ i, decode w = .command i ∧ i.opcodeMatch = row.opcodeMatch ∧ i.opcodeMask = row.opcodeMask := by
  obtain ⟨hop, hzero, hselector⟩ := (and_opcodeMask_eq_iff w row).mp h
  rw [decode_eq_stages, hop, if_neg (Nat.not_le.mpr (rowOpcode_lt row)), hzero]
  exact decodeFields_of_row hselector

/-! ## Words with no cause -/

theorem decode_of_causeOf_eq_none {c : Config} {w : Word} (h : causeOf c w = none) :
    ∃ i, decode w = .command i ∧ i.wf c = true := by
  rw [causeOf_eq] at h
  cases hd : decode w with
  | reject cause => simp [hd, causeOfDecoded] at h
  | command i => exact ⟨i, rfl, by simpa [hd, causeOfDecoded] using h⟩

/-! ## The obligations -/

/-- Settles O4: a row's mask covers the opcode, the reserved-zero bits and the selector, and the decoder chooses the
command by these three. -/
theorem decoderFollowsOpcodeMap : Obligations.DecoderFollowsOpcodeMap := by
  refine ⟨fun w row => ⟨decode_of_and_opcodeMask, ?ofRow⟩, fun w hop => ?reserved⟩
  case ofRow =>
    rintro ⟨i, hdecode, hmatch, hmask⟩
    rw [← hmatch, ← hmask, and_opcodeMask_of_decode hdecode]
  case reserved =>
    rw [bitsOf_eq_field] at hop
    rw [decode_eq_stages, if_pos hop]

/-- Settles O6: a word with no cause decodes to a well-formed command, and the step runs what is decoded. -/
theorem wordWithoutCauseExecutes : Obligations.WordWithoutCauseExecutes := by
  intro s w ready rest hport hcause
  obtain ⟨i, hdecode, hwf⟩ := decode_of_causeOf_eq_none hcause
  exact ⟨i, hdecode, hwf, encode_of_decode hdecode, stepRunsTheDecodedCommand s w ready rest i hport hdecode⟩

/-- Settles O1, by running the decoder on each of the eleven words. -/
theorem wordsOfTheSpecDecode : Obligations.WordsOfTheSpecDecode := by
  unfold Obligations.WordsOfTheSpecDecode
  decide

end Sys2Proof.Machine
end

section
/-! SUPPORT. The listing of a wavetable as one list of 2049 entries, read by position, and the properties of its contents
(41_wavetable_rom.md rules R152, R160, R161). -/

namespace Sys2Proof.Machine

/-! ## The pieces and rows of a table as one list -/

/-- A list cut into chunks of `k`, the last one perhaps shorter, holds entry `i` at `i % k` of chunk `i / k`. -/
theorem getD_getD_eq_getD_flatten {α : Type} {k : Nat} (hk : 0 < k) {L : List (List α)} (d : α)
    (hfull : ∀ l ∈ L.dropLast, l.length = k) (hle : ∀ l ∈ L, l.length ≤ k) (i : Nat) :
    (L.getD (i / k) []).getD (i % k) d = L.flatten.getD i d := by
  induction L generalizing i with
  | nil => simp
  | cons l ls ih =>
    obtain hi | ⟨j, rfl⟩ := (Nat.lt_or_ge i k).imp_right Nat.exists_eq_add_of_le'
    · rw [Nat.div_eq_of_lt hi, Nat.mod_eq_of_lt hi]
      cases ls with
      | nil => simp
      | cons l' ls => exact (List.getD_append _ _ _ _ (hi.trans_eq (hfull l (by simp)).symm)).symm
    · rw [Nat.add_div_right j hk, Nat.add_mod_right, List.getD_cons_succ, List.flatten_cons,
        List.getD_append_right _ _ _ _ ((hle l (by simp)).trans (Nat.le_add_left k j))]
      cases ls with
      | nil => simp
      | cons l' ls =>
        rw [hfull l (by simp), Nat.add_sub_cancel]
        exact ih (fun m hm => hfull m (by simp [hm])) (fun m hm => hle m (List.mem_cons_of_mem l hm)) j

/-- The entries of a table in order, the guard entry last. -/
def waveEntries (w : Wave) : List Int := (waveTable w).flatten.flatten

theorem length_piece (w : Wave) :
    (∀ piece ∈ (waveTable w).dropLast, piece.length = 16) ∧ ∀ piece ∈ waveTable w, piece.length ≤ 16 := by
  cases w <;> decide

theorem length_row (w : Wave) :
    (∀ row ∈ (waveTable w).flatten.dropLast, row.length = 16) ∧ ∀ row ∈ (waveTable w).flatten, row.length ≤ 16 := by
  cases w <;> decide +kernel

theorem length_waveEntries (w : Wave) : (waveEntries w).length = 2049 := by
  cases w <;> decide +kernel

theorem memReadWt_eq_getD_waveEntries (w : Wave) (i : Nat) : memReadWt w i = (waveEntries w).getD i 0 := by
  obtain ⟨hpiece, hpiece'⟩ := length_piece w
  obtain ⟨hrow, hrow'⟩ := length_row w
  rw [memReadWt, waveEntries, ← getD_getD_eq_getD_flatten (k := 16) (by decide) 0 hrow hrow',
    ← getD_getD_eq_getD_flatten (k := 16) (by decide) [] hpiece hpiece', Nat.div_div_eq_div_mul]

/-! ## The contents -/

theorem reverse_waveEntries (w : Wave) : (waveEntries w).reverse = (waveEntries w).map (-·) := by
  cases w <;> decide +kernel

/-- A table is odd about its midpoint: read from its end, the listing is its own negation. -/
theorem memReadWt_odd (w : Wave) {i : Nat} (hi : i ≤ 2048) : memReadWt w (2048 - i) = -memReadWt w i := by
  have hlt : i < (waveEntries w).length := by rw [length_waveEntries]; omega
  simp only [memReadWt_eq_getD_waveEntries]
  calc (waveEntries w).getD (2048 - i) 0
      = (waveEntries w).reverse.getD i 0 := by rw [List.getD_reverse i hlt, length_waveEntries]
    _ = ((waveEntries w).map (-·)).getD i (-0) := by rw [reverse_waveEntries, neg_zero]
    _ = -(waveEntries w).getD i 0 := List.getD_map _ _ (-·)

/-- The largest magnitude in a table (rule R160). -/
def wavePeak : Wave → Nat
  | .sine => 16383
  | .square => 13648
  | .triangle => 19997
  | .ramp => 23488

theorem natAbs_le_wavePeak (w : Wave) : ∀ y ∈ waveEntries w, y.natAbs ≤ wavePeak w := by
  cases w <;> decide +kernel

theorem memReadWt_natAbs_le_wavePeak (w : Wave) (i : Nat) : (memReadWt w i).natAbs ≤ wavePeak w := by
  rw [memReadWt_eq_getD_waveEntries]
  rcases lt_or_ge i (waveEntries w).length with hi | hi
  · rw [List.getD_eq_getElem _ _ hi]
    exact natAbs_le_wavePeak w _ (List.getElem_mem hi)
  · rw [List.getD_eq_default _ _ hi]
    exact Nat.zero_le _

theorem exists_memReadWt_eq_wavePeak (w : Wave) : ∃ i ≤ 2048, memReadWt w i = wavePeak w :=
  match w with
  | .sine | .triangle => ⟨512, by decide, rfl⟩
  | .square => ⟨9, by decide, rfl⟩
  | .ramp => ⟨8, by decide, rfl⟩

/-- Settles O59: the zeros at the midpoint and at the guard entry follow from the oddness and the zero at entry 0. -/
theorem wavetableContents : Obligations.WavetableContents := by
  intro w
  have hzero : memReadWt w 0 = 0 := by cases w <;> rfl
  have hguard : memReadWt w 2048 = -memReadWt w 0 := memReadWt_odd w (i := 0) (by decide)
  have hmid : memReadWt w 1024 = -memReadWt w 1024 := memReadWt_odd w (i := 1024) (by decide)
  refine ⟨by omega, hzero, by omega, fun i _ hi => memReadWt_odd w (by omega), fun i _ => ?bound, ?attained⟩
  case bound =>
    have hbound := memReadWt_natAbs_le_wavePeak w i
    cases w <;> exact hbound
  case attained =>
    have hattained := exists_memReadWt_eq_wavePeak w
    cases w <;> exact hattained

end Sys2Proof.Machine
end

section
/-! SUPPORT. The pitch ROM in exact reals (42_pitch_table.md rules R180, R181, R185): the integer comparison behind an entry
(log 8) is the comparison with the exact phase increment, so the search finds its rounded value. -/

namespace Sys2Proof.Machine

/-! ## The exact phase increment -/

/-- `frequency(n) * 2^32 / SAMPLE_RATE`, with `frequency(n) = 440 * 2^((n-69)/12)`, before its rounding (rules R180, R181). -/
noncomputable def exactPitch (sampleRate n : Nat) : ℝ :=
  (440 : ℝ) * (2 : ℝ) ^ (((n : ℝ) - 69) / 12) * 2 ^ 32 / (sampleRate : ℝ)

theorem exactPitch_nonneg (rate n : Nat) : 0 ≤ exactPitch rate n := by
  unfold exactPitch
  positivity

/-- The twelfth power clears the root in the frequency of a semitone. -/
theorem semitone_pow_twelve (n : Nat) : ((2 : ℝ) ^ (((n : ℝ) - 69) / 12)) ^ 12 * 2 ^ 69 = 2 ^ n := by
  calc ((2 : ℝ) ^ (((n : ℝ) - 69) / 12)) ^ 12 * 2 ^ 69
      = (2 : ℝ) ^ ((n : ℝ) - 69) * (2 : ℝ) ^ (69 : ℝ) := by
        rw [← Real.rpow_mul_natCast two_pos.le, Nat.cast_ofNat, div_mul_cancel₀ _ (by norm_num),
          Real.rpow_ofNat]
    _ = 2 ^ n := by rw [← Real.rpow_add two_pos, sub_add_cancel, Real.rpow_natCast]

/-- The identity behind `pitchReaches`: twice the exact value, its twelfth power cleared of denominators. -/
theorem two_exactPitch_pow_twelve {rate : Nat} (hrate : 0 < rate) (n : Nat) :
    (2 * exactPitch rate n) ^ 12 * ((rate : ℝ) ^ 12 * 2 ^ 69) = (880 * 2 ^ 32) ^ 12 * 2 ^ n := by
  have hne : (rate : ℝ) ≠ 0 := Nat.cast_ne_zero.mpr hrate.ne'
  rw [← semitone_pow_twelve n, exactPitch]
  field_simp
  ring

theorem exactPitch_add_twelve (rate n : Nat) : exactPitch rate (n + 12) = 2 * exactPitch rate n := by
  have hoctave : (((n + 12 : Nat) : ℝ) - 69) / 12 = ((n : ℝ) - 69) / 12 + 1 := by
    push_cast
    ring
  rw [exactPitch, exactPitch, hoctave, Real.rpow_add_one two_ne_zero]
  ring

/-! ## The search finds the rounded value -/

theorem pitchReaches_iff_pred_le {rate : Nat} (hrate : 0 < rate) (n r : Nat) :
    pitchReaches rate n r = true ↔ ((2 * r - 1 : Nat) : ℝ) ≤ 2 * exactPitch rate n := by
  have hscale : (0 : ℝ) < (rate : ℝ) ^ 12 * 2 ^ 69 := by positivity
  calc pitchReaches rate n r = true
      ↔ ((2 * r - 1 : Nat) : ℝ) ^ 12 * ((rate : ℝ) ^ 12 * 2 ^ 69) ≤ (880 * 2 ^ 32) ^ 12 * 2 ^ n := by
        rw [pitchReaches, decide_eq_true_eq, mul_assoc]
        exact_mod_cast Iff.rfl
    _ ↔ ((2 * r - 1 : Nat) : ℝ) ^ 12 ≤ (2 * exactPitch rate n) ^ 12 := by
        rw [← two_exactPitch_pow_twelve hrate n, mul_le_mul_iff_left₀ hscale]
    _ ↔ ((2 * r - 1 : Nat) : ℝ) ≤ 2 * exactPitch rate n :=
        pow_le_pow_iff_left₀ (Nat.cast_nonneg _) (mul_nonneg two_pos.le (exactPitch_nonneg rate n))
          (by decide)

/-- `pitchReaches` compares `r - 1/2` with the exact value. At `r = 0`, where the model's subtraction stops at 0, both
sides hold. -/
theorem pitchReaches_iff {rate : Nat} (hrate : 0 < rate) (n r : Nat) :
    pitchReaches rate n r = true ↔ (r : ℝ) ≤ exactPitch rate n + 1 / 2 := by
  rw [pitchReaches_iff_pred_le hrate]
  have hnonneg := exactPitch_nonneg rate n
  cases r with
  | zero =>
    refine iff_of_true ?_ ?_
    · simpa using hnonneg
    · rw [Nat.cast_zero]
      linarith
  | succ k =>
    have hpred : ((2 * (k + 1) - 1 : Nat) : ℝ) = 2 * ((k + 1 : Nat) : ℝ) - 1 := by
      push_cast [show 2 * (k + 1) - 1 = 2 * k + 1 by omega]
      ring
    rw [hpred]
    constructor <;> intro h <;> linarith

/-- From the lowest sample rate of 00_scope.md rule R10 on, the entry of every note fits its u32. -/
theorem pitchReaches_two_pow_32_eq_false {rate n : Nat} (hrate : 12544 ≤ rate) (hn : n ≤ 127) :
    pitchReaches rate n (2 ^ 32) = false := by
  rw [pitchReaches, decide_eq_false_iff_not, not_le]
  calc (880 * 2 ^ 32) ^ 12 * 2 ^ n
      ≤ (880 * 2 ^ 32) ^ 12 * 2 ^ 127 := by gcongr; decide
    _ < (2 * 2 ^ 32 - 1) ^ 12 * 12544 ^ 12 * 2 ^ 69 := by norm_num
    _ ≤ (2 * 2 ^ 32 - 1) ^ 12 * rate ^ 12 * 2 ^ 69 := by gcongr

theorem toNat_memReadPitch (c : Config) (n : Nat) : (memReadPitch c n).toNat = tuneOf c.sampleRate n := by
  have hrange := (largestFrom_range (pitchReaches c.sampleRate n) 32 0).2
  rw [memReadPitch, BitVec.toNat_ofNat]
  exact Nat.mod_eq_of_lt (by rw [tuneOf]; omega)

theorem tuneOf_eq_round {rate n : Nat} (hrate : 12544 ≤ rate) (hn : n ≤ 127) :
    (tuneOf rate n : ℤ) = round (exactPitch rate n) := by
  have hpos : 0 < rate := by omega
  have hstart : pitchReaches rate n 0 = true := by
    rw [pitchReaches_iff_pred_le hpos]
    simpa using exactPitch_nonneg rate n
  have hend : pitchReaches rate n (0 + 2 ^ 32) = false := by
    rw [zero_add]
    exact pitchReaches_two_pow_32_eq_false hrate hn
  obtain ⟨-, -, hreached, hnext⟩ := largestFrom_spec _ 32 0 hstart hend
  rw [← Bool.not_eq_true, pitchReaches_iff hpos, not_le] at hnext
  rw [round_eq, eq_comm, Int.floor_eq_iff]
  exact ⟨by exact_mod_cast (pitchReaches_iff hpos n _).mp hreached, by exact_mod_cast hnext⟩

/-- Settles O55: the entry is what the search finds, and that is the integer within half of the exact value. -/
theorem pitchRomIsTheRoundedFrequency : Obligations.PitchRomIsTheRoundedFrequency := by
  intro c n hrate hn
  rw [toNat_memReadPitch]
  exact tuneOf_eq_round hrate hn

/-! ## An octave -/

/-- Rounding a real and its double: the two errors, at most 1/2 once and at most 1/2 twice, leave a difference below 2. -/
theorem round_two_mul_sub_two_mul_round (x : ℝ) : round (2 * x) - 2 * round x ∈ ({-1, 0, 1} : Set ℤ) := by
  obtain ⟨hxlo, hxhi⟩ := abs_le.mp (abs_sub_round x)
  obtain ⟨hdlo, hdhi⟩ := abs_le.mp (abs_sub_round (2 * x))
  have hlo : -2 < round (2 * x) - 2 * round x := by
    have : ((-2 : ℤ) : ℝ) < ((round (2 * x) - 2 * round x : ℤ) : ℝ) := by push_cast; linarith
    exact_mod_cast this
  have hhi : round (2 * x) - 2 * round x < 2 := by
    have : ((round (2 * x) - 2 * round x : ℤ) : ℝ) < ((2 : ℤ) : ℝ) := by push_cast; linarith
    exact_mod_cast this
  simp only [Set.mem_insert_iff, Set.mem_singleton_iff]
  omega

/-- Settles O56: both entries are rounded exact values (O55), and the exact value of the octave is the double. -/
theorem pitchDoublesPerOctave : Obligations.PitchDoublesPerOctave := by
  intro c n hrate hn
  have hnote := tuneOf_eq_round (n := n) hrate (by omega)
  have hoctave := tuneOf_eq_round (n := n + 12) hrate (by omega)
  rw [exactPitch_add_twelve] at hoctave
  rw [toNat_memReadPitch, toNat_memReadPitch, hnote, hoctave]
  exact round_two_mul_sub_two_mul_round _

end Sys2Proof.Machine
end

section
/-! SUPPORT. The linear interpolator (43_oscillator.md rules R202 to R205): the fields of a phase, the largest step between
adjacent entries of each table (41_wavetable_rom.md rule R161), and the width of the interpolation product. -/

namespace Sys2Proof.Machine

/-! ## The fields of a phase -/

/-- The index names an entry before the guard entry, so entry `index + 1` exists. -/
theorem phaseIndex_lt (p : Word) : phaseIndex p < 2048 :=
  Nat.div_lt_of_lt_mul p.isLt

theorem phaseFrac_lt (p : Word) : phaseFrac p < 2 ^ 21 :=
  Nat.mod_lt _ (by decide)

/-! ## The output -/

@[simp] theorem interpolate_zero (y0 y1 : Int) : interpolate y0 y1 0 = y0 := by
  simp [interpolate, asr]

/-- Settles O32: `interpolate_between` places the output between its entries, and the range of the entries makes it an s16. -/
theorem oscillatorLiesBetweenItsEntries : Obligations.OscillatorLiesBetweenItsEntries := by
  intro p w
  obtain ⟨hlow, hhigh⟩ :=
    interpolate_between (memReadWt w (phaseIndex p)) (memReadWt w (phaseIndex p + 1)) (phaseFrac_lt p)
  have hrange := oscSample_natAbs_le p w
  refine ⟨hlow, hhigh, by omega, by omega, fun hfrac : phaseFrac p = 0 => ?_⟩
  rw [oscSample, hfrac, interpolate_zero]
  rfl

/-! ## The interpolation product -/

/-- The largest step between adjacent entries of a table (rule R161). -/
def waveStep : Wave → Nat
  | .sine => 51
  | .square => 2699
  | .triangle => 46
  | .ramp => 4678

theorem waveStep_le (w : Wave) : waveStep w ≤ 4678 := by
  cases w <;> decide

/-- The differences between adjacent entries of a table, in order. -/
def waveDifferences (w : Wave) : List Int := List.zipWith (· - ·) (waveEntries w).tail (waveEntries w)

theorem natAbs_le_waveStep (w : Wave) : ∀ d ∈ waveDifferences w, d.natAbs ≤ waveStep w := by
  cases w <;> decide +kernel

theorem memReadWt_succ_sub_mem_waveDifferences (w : Wave) {i : Nat} (hi : i < 2048) :
    memReadWt w (i + 1) - memReadWt w i ∈ waveDifferences w := by
  have hnext : i + 1 < (waveEntries w).length := by rw [length_waveEntries]; omega
  simp only [memReadWt_eq_getD_waveEntries]
  rw [List.getD_eq_getElem _ _ hnext, List.getD_eq_getElem _ _ (Nat.lt_of_succ_lt hnext)]
  refine List.mem_of_getElem? (i := i) ?_
  simp [waveDifferences, List.getElem?_zipWith, hnext, Nat.lt_of_succ_lt hnext]

/-- A step of at most 4678, the largest of the four tables, times a 21-bit fraction needs 35 signed bits (rule R204). -/
theorem natAbs_mul_frac_lt {d : Int} {frac : Nat} (hd : d.natAbs ≤ 4678) (hfrac : frac < 2 ^ 21) :
    (d * frac).natAbs < 2 ^ 34 := by
  calc (d * frac).natAbs = d.natAbs * frac := by rw [Int.natAbs_mul, Int.natAbs_natCast]
    _ ≤ 4678 * 2 ^ 21 := Nat.mul_le_mul hd hfrac.le
    _ < 2 ^ 34 := by decide

/-- Settles O33: the index of a phase stays below the guard entry, so the two entries are adjacent in the listing. -/
theorem interpolationProductFits : Obligations.InterpolationProductFits := by
  intro p w
  have hstep := natAbs_le_waveStep w _ (memReadWt_succ_sub_mem_waveDifferences w (phaseIndex_lt p))
  refine ⟨?step, natAbs_mul_frac_lt (hstep.trans (waveStep_le w)) (phaseFrac_lt p)⟩
  case step => cases w <;> exact hstep

end Sys2Proof.Machine
end

section
/-! SUPPORT. Envelopes (44_envelope.md rules R225 to R239): a tick while the state stays, a batch against single ticks, what
any number of ticks leads to, and what a command does to an envelope. -/

namespace Sys2Proof.Machine

open Sys2Proof.Claims

/-! ## Rates -/

/-- A rate as the statements spell it out (rule R227). -/
theorem toNat_mkRate_durationSamples (c : Config) {num : Nat} (h : num ≤ envMax) (index : Index14) :
    (mkRate c num (durationSamples c index)).toNat = rateValue c num index :=
  mkRate_toNat c num _ h

/-- Settles O35, by `mkRate_toNat`; a minimum of 0 leaves the quotient. -/
theorem rateIsTheFlooredQuotient : Obligations.RateIsTheFlooredQuotient := by
  intro c num d hnum _
  have hrate := mkRate_toNat c num d hnum
  exact ⟨hrate, fun hmin => by simp [hrate, hmin]⟩

/-! ## A tick while the state stays -/

/-- No transition fires within a batch of `n` (rules R231 to R234). -/
def LayerEnv.Stays (p : PatchLayer) (n : Nat) (e : LayerEnv) : Prop :=
  match e.state with
  | .attack => e.level.toNat + n * e.rate.toNat < envMax
  | .decay => p.sustain.toNat + n * e.rate.toNat < e.level.toNat
  | .release => n * e.rate.toNat < e.level.toNat
  | .idle | .sustain => True

/-- The envelope with its level moved by `n` times the rate, in the direction of its state. -/
def LayerEnv.moved (n : Nat) (e : LayerEnv) : LayerEnv :=
  match e.state with
  | .attack => { e with level := .ofNat 32 (e.level.toNat + n * e.rate.toNat) }
  | .decay | .release => { e with level := .ofNat 32 (e.level.toNat - n * e.rate.toNat) }
  | .idle | .sustain => e

section
variable {c : Config} {p : PatchLayer} {n : Nat} {e : LayerEnv}

@[simp] theorem moved_state : (e.moved n).state = e.state := by
  unfold LayerEnv.moved; split <;> rfl

@[simp] theorem moved_rate : (e.moved n).rate = e.rate := by
  unfold LayerEnv.moved; split <;> rfl

theorem toNat_level_moved_attack (h : e.state = .attack) (hn : e.level.toNat + n * e.rate.toNat < envMax) :
    (e.moved n).level.toNat = e.level.toNat + n * e.rate.toNat := by
  simp only [LayerEnv.moved, h]
  exact Nat.mod_eq_of_lt (hn.trans (by decide))

theorem toNat_level_moved_fall (h : e.state = .decay ∨ e.state = .release) :
    (e.moved n).level.toNat = e.level.toNat - n * e.rate.toNat := by
  have hlevel : e.level.toNat - n * e.rate.toNat < 2 ^ 32 := (Nat.sub_le _ _).trans_lt e.level.isLt
  obtain h | h := h <;> simp only [LayerEnv.moved, h] <;> exact Nat.mod_eq_of_lt hlevel

theorem moved_of_rate_eq_zero (h : e.rate = 0) : e.moved n = e := by
  obtain ⟨state, level, rate⟩ := e
  subst h
  cases state <;> simp [LayerEnv.moved]

@[simp] theorem moved_zero : e.moved 0 = e := by
  unfold LayerEnv.moved; split <;> simp

/-- A tick without a transition moves the level and writes nothing else. -/
theorem tick_of_stays (h : e.Stays p n) : e.tick c p n = e.moved n := by
  unfold LayerEnv.Stays at h
  split at h
  next hs => rw [tick_attack c p n e hs, tickAttack_rise c p n e h, LayerEnv.moved, hs]
  next hs => rw [tick_decay c p n e hs, tickDecay_fall p n e (by omega) (by omega), LayerEnv.moved, hs]
  next hs => rw [tick_release c p n e hs, tickRelease_fall n e h, LayerEnv.moved, hs]
  next hs => rw [tick_idle c p n e hs, LayerEnv.moved, hs]
  next hs => rw [tick_sustain c p n e hs, LayerEnv.moved, hs]

/-- The transitions, all of them (rule R225): ATTACK to DECAY, DECAY to SUSTAIN, and RELEASE to a silent IDLE. -/
theorem tick_of_not_stays (h : ¬ e.Stays p n) :
    (e.state = .attack ∧ (e.tick c p n).state = .decay) ∨ (e.state = .decay ∧ (e.tick c p n).state = .sustain) ∨
      (e.state = .release ∧ (e.tick c p n).state = .idle ∧ (e.tick c p n).level = 0) := by
  unfold LayerEnv.Stays at h
  split at h
  next hs => exact .inl ⟨hs, by rw [tick_attack c p n e hs, tickAttack_clamp c p n e (by omega)]⟩
  next hs => exact .inr (.inl ⟨hs, by rw [tick_decay c p n e hs, tickDecay_clamp p n e (by omega)]⟩)
  next hs =>
    rw [tick_release c p n e hs, tickRelease_clamp n e (by omega)]
    exact .inr (.inr ⟨hs, rfl, rfl⟩)
  next => exact absurd trivial h
  next => exact absurd trivial h

/-- The state is kept exactly when no transition fires. -/
theorem tick_state_eq_iff : (e.tick c p n).state = e.state ↔ e.Stays p n := by
  refine ⟨fun h => ?_, fun h => by rw [tick_of_stays h, moved_state]⟩
  by_contra hleaves
  obtain ⟨hs, ht⟩ | ⟨hs, ht⟩ | ⟨hs, ht, -⟩ := tick_of_not_stays (c := c) hleaves <;> simp [hs, ht] at h

end

/-- Settles O36: a tick without a transition moves the level (`tick_of_stays`), and one with a transition clamps it. -/
theorem tickOfEachState : Obligations.TickOfEachState := by
  intro c p n e
  refine ⟨fun h hfull => ?full, fun h hrise => ?rise, fun h hfloor => ?floor, fun h hle hfall => ?fall,
    fun h => ?held, fun h hsilent => ?silent, fun h hfall => ?release⟩
  case full =>
    rw [tick_attack c p n e h, tickAttack_clamp c p n e hfull]
    exact ⟨rfl, rfl, toNat_mkRate_durationSamples c (Nat.sub_le _ _) _⟩
  case rise =>
    rw [tick_of_stays (by simpa only [LayerEnv.Stays, h, envMax] using hrise)]
    exact ⟨by simp [h], toNat_level_moved_attack h hrise, moved_rate⟩
  case floor =>
    rw [tick_decay c p n e h, tickDecay_clamp p n e hfloor]
  case fall =>
    rw [tick_of_stays (by simp only [LayerEnv.Stays, h]; omega)]
    exact ⟨by simp [h], toNat_level_moved_fall (.inl h), moved_rate⟩
  case held =>
    obtain h | h := h
    · exact tick_sustain c p n e h
    · exact tick_idle c p n e h
  case silent =>
    rw [tick_release c p n e h, tickRelease_clamp n e hsilent]
  case release =>
    rw [tick_of_stays (by simpa only [LayerEnv.Stays, h] using hfall)]
    exact ⟨by simp [h], toNat_level_moved_fall (.inr h), moved_rate⟩

/-! ## A batch and single ticks (rule R236) -/

section
variable {c : Config} {p : PatchLayer} {n : Nat} {e : LayerEnv}

theorem stays_of_stays_succ (h : e.Stays p (n + 1)) : e.Stays p n := by
  have hsucc : (n + 1) * e.rate.toNat = n * e.rate.toNat + e.rate.toNat := Nat.add_one_mul _ _
  unfold LayerEnv.Stays at h ⊢
  split <;> simp only [*] at h <;> omega

/-- One period more is one tick more, whether or not the transition fires in it. -/
theorem tick_succ_of_stays (h : e.Stays p n) : e.tick c p (n + 1) = (e.tick c p n).tick c p 1 := by
  have hsucc : (n + 1) * e.rate.toNat = n * e.rate.toNat + e.rate.toNat := Nat.add_one_mul _ _
  rw [tick_of_stays h]
  unfold LayerEnv.Stays at h
  split at h
  next hs =>
    rw [tick_attack c p _ e hs, tick_attack c p _ _ (moved_state.trans hs)]
    simp only [LayerEnv.tickAttack, toNat_level_moved_attack hs h, moved_state, moved_rate, hsucc, Nat.one_mul,
      Nat.add_assoc]
  next hs =>
    have hpast : n * e.rate.toNat + e.rate.toNat > e.level.toNat ↔
        e.rate.toNat > e.level.toNat - n * e.rate.toNat := by omega
    rw [tick_decay c p _ e hs, tick_decay c p _ _ (moved_state.trans hs)]
    simp only [LayerEnv.tickDecay, toNat_level_moved_fall (.inl hs), moved_state, moved_rate, hsucc, Nat.one_mul,
      Nat.sub_sub, hpast]
  next hs =>
    have hpast : n * e.rate.toNat + e.rate.toNat ≥ e.level.toNat ↔
        e.rate.toNat ≥ e.level.toNat - n * e.rate.toNat := by omega
    rw [tick_release c p _ e hs, tick_release c p _ _ (moved_state.trans hs)]
    simp only [LayerEnv.tickRelease, toNat_level_moved_fall (.inr hs), moved_state, moved_rate, hsucc, Nat.one_mul,
      Nat.sub_sub, hpast]
  next hs => rw [tick_idle c p _ e hs, tick_idle c p _ _ (moved_state.trans hs), LayerEnv.moved, hs]
  next hs => rw [tick_sustain c p _ e hs, tick_sustain c p _ _ (moved_state.trans hs), LayerEnv.moved, hs]

/-- While no transition fires the batch is the single ticks. -/
theorem tick_eq_iterate_of_stays (h : e.Stays p n) : e.tick c p n = (LayerEnv.tick c p 1)^[n] e := by
  induction n with
  | zero => exact (tick_of_stays h).trans moved_zero
  | succ n ih =>
    have hn := stays_of_stays_succ h
    rw [tick_succ_of_stays hn, ih hn, Function.iterate_succ_apply']

/-- The batch is the single ticks also when the transition fires in its last period. -/
theorem tick_succ_eq_iterate_of_stays (h : e.Stays p n) :
    e.tick c p (n + 1) = (LayerEnv.tick c p 1)^[n + 1] e := by
  rw [tick_succ_of_stays h, tick_eq_iterate_of_stays h, Function.iterate_succ_apply']

/-- When a batch of `n` leaves the state, so do at most `n` single ticks (one, for an empty batch), by the same
transition. -/
theorem exists_iterate_of_not_stays (c : Config) (p : PatchLayer) (h : ¬ e.Stays p n) :
    ∃ k, k ≤ max 1 n ∧ ¬ e.Stays p k ∧ (LayerEnv.tick c p 1)^[k] e = e.tick c p k := by
  induction n with
  | zero => exact ⟨1, le_rfl, mt stays_of_stays_succ h, rfl⟩
  | succ n ih =>
    by_cases hn : e.Stays p n
    · exact ⟨n + 1, le_max_right _ _, h, (tick_succ_eq_iterate_of_stays hn).symm⟩
    · obtain ⟨k, hk, hleaves, heq⟩ := ih hn
      exact ⟨k, by omega, hleaves, heq⟩

/-- At a rate of at least 1 no stage lasts longer than its distance: to full level in ATTACK, to 0 in DECAY and
RELEASE. -/
theorem not_stays_of_rate_pos (hrate : 1 ≤ e.rate.toNat)
    (h : (e.state = .attack ∧ n = envMax) ∨ ((e.state = .decay ∨ e.state = .release) ∧ n = e.level.toNat)) :
    ¬ e.Stays p n := by
  have hreach : n ≤ n * e.rate.toNat := Nat.le_mul_of_pos_right n hrate
  obtain ⟨hs, rfl⟩ | ⟨hs | hs, rfl⟩ := h <;> simp only [LayerEnv.Stays, hs] <;> omega

end

/-- Settles O38: a state that is kept says that no transition fires (`tick_state_eq_iff`). -/
theorem batchTickIsRepeatedTick : Obligations.BatchTickIsRepeatedTick := by
  intro c p n e
  simp only [tick_state_eq_iff]
  exact ⟨tick_eq_iterate_of_stays, fun h _ => tick_succ_eq_iterate_of_stays h⟩

/-- Settles O39: at a rate of at least 1 a batch as long as the distance to the end of the stage leaves it
(`not_stays_of_rate_pos`), so single ticks leave it within as many periods. -/
theorem positiveRatesEndEveryStage : Obligations.PositiveRatesEndEveryStage := by
  refine ⟨fun c num d hmin hnum => ?rates, fun c p e hrate =>
    ⟨fun h => ?attack, fun h => ?decay, fun h => ?release⟩⟩
  case rates =>
    rw [mkRate_toNat c num d hnum, hmin]
    exact le_max_left _ _
  case attack =>
    obtain ⟨k, hk, hleaves, heq⟩ := exists_iterate_of_not_stays c p (not_stays_of_rate_pos hrate (.inl ⟨h, rfl⟩))
    exact ⟨k, hk.trans (by decide), by simpa [h, heq] using tick_of_not_stays (c := c) hleaves⟩
  case decay =>
    obtain ⟨k, hk, hleaves, heq⟩ := exists_iterate_of_not_stays c p (not_stays_of_rate_pos hrate (.inr ⟨.inl h, rfl⟩))
    have hlevel := e.level.isLt
    exact ⟨k, by omega, by simpa [h, heq] using tick_of_not_stays (c := c) hleaves⟩
  case release =>
    obtain ⟨k, hk, hleaves, heq⟩ := exists_iterate_of_not_stays c p (not_stays_of_rate_pos hrate (.inr ⟨.inr h, rfl⟩))
    exact ⟨k, hk, by simpa [h, heq] using tick_of_not_stays (c := c) hleaves⟩

/-! ## Any number of ticks -/

/-- What any number of ticks can make of the envelope `e`, whatever the patch is meanwhile (rules R225, R238). -/
def LayerEnv.LeadsTo (e e' : LayerEnv) : Prop :=
  match e.state with
  | .attack => (e'.state = .attack ∧ e.level.toNat ≤ e'.level.toNat) ∨ e'.state = .decay ∨ e'.state = .sustain
  | .decay => (e'.state = .decay ∧ e'.level.toNat ≤ e.level.toNat) ∨ e'.state = .sustain
  | .release => (e'.state = .release ∨ e'.state = .idle) ∧ e'.level.toNat ≤ e.level.toNat
  | .idle | .sustain => e' = e

theorem leadsTo_refl (e : LayerEnv) : e.LeadsTo e := by
  unfold LayerEnv.LeadsTo
  split <;> simp_all

/-- Rule R238 for one tick: the level of a state that is kept moves in the direction of the state. -/
theorem tick_leadsTo (c : Config) (p : PatchLayer) (n : Nat) (e : LayerEnv) : e.LeadsTo (e.tick c p n) := by
  obtain ⟨hs | hs, ht⟩ | ⟨hs, -, ht, hl⟩ | ⟨hs, -, ht, -, hl⟩ | ⟨hs, -, ht, -, hl⟩ | ⟨hs, -, -, ht, -, hl⟩ |
    ⟨hs, -, ht, -, hl⟩ | ⟨hs, -, ht, -, hl⟩ := tick_cases c p n e
  · simp [LayerEnv.LeadsTo, hs, ht]
  · simp [LayerEnv.LeadsTo, hs, ht]
  all_goals simp [LayerEnv.LeadsTo, hs, ht, hl]

theorem LayerEnv.LeadsTo.trans {e e' e'' : LayerEnv} (h : e.LeadsTo e') (h' : e'.LeadsTo e'') : e.LeadsTo e'' := by
  unfold LayerEnv.LeadsTo at h ⊢
  split at h
  next =>
    obtain ⟨hs, hl⟩ | hs | hs := h <;> simp only [LayerEnv.LeadsTo, hs] at h'
    · exact h'.imp_left fun k => ⟨k.1, hl.trans k.2⟩
    · exact .inr (h'.imp_left And.left)
    · exact .inr (.inr (h' ▸ hs))
  next =>
    obtain ⟨hs, hl⟩ | hs := h <;> simp only [LayerEnv.LeadsTo, hs] at h'
    · exact h'.imp_left fun k => ⟨k.1, k.2.trans hl⟩
    · exact .inr (h' ▸ hs)
  next =>
    obtain ⟨hs | hs, hl⟩ := h <;> simp only [LayerEnv.LeadsTo, hs] at h'
    · exact ⟨h'.1, h'.2.trans hl⟩
    · exact h' ▸ ⟨.inr hs, hl⟩
  next hs => subst h; simpa only [LayerEnv.LeadsTo, hs] using h'
  next hs => subst h; simpa only [LayerEnv.LeadsTo, hs] using h'

/-- The transitions over any number of ticks (rule R225). -/
theorem LayerEnv.LeadsTo.state_cases {e e' : LayerEnv} (h : e.LeadsTo e') :
    e'.state = e.state ∨ (e.state = .attack ∧ e'.state = .decay) ∨ (e.state = .attack ∧ e'.state = .sustain) ∨
      (e.state = .decay ∧ e'.state = .sustain) ∨ (e.state = .release ∧ e'.state = .idle) := by
  unfold LayerEnv.LeadsTo at h
  split at h
  next hs =>
    obtain ⟨hs', -⟩ | hs' | hs' := h
    · exact .inl (hs'.trans hs.symm)
    · exact .inr (.inl ⟨hs, hs'⟩)
    · exact .inr (.inr (.inl ⟨hs, hs'⟩))
  next hs =>
    obtain ⟨hs', -⟩ | hs' := h
    · exact .inl (hs'.trans hs.symm)
    · exact .inr (.inr (.inr (.inl ⟨hs, hs'⟩)))
  next hs =>
    obtain ⟨hs' | hs', -⟩ := h
    · exact .inl (hs'.trans hs.symm)
    · exact .inr (.inr (.inr (.inr ⟨hs, hs'⟩)))
  next => exact .inl (by rw [h])
  next => exact .inl (by rw [h])

theorem blockState_leadsTo (s : State) (n : Nat) (v : Fin 8) (l : Fin 4) :
    (s.env v l).LeadsTo ((s.blockState n).env v l) :=
  blockState_env_of_tick (fun c p k _ h => h.trans (tick_leadsTo c p k _)) s n v l (leadsTo_refl _)

/-! ## Commands -/

@[simp] theorem advance_env (s : State) (v : Fin 8) (l : Fin 4) : s.advance.env v l = s.env v l := rfl

theorem active_iff_isActive (s : State) (l : Fin 4) : (s.patch.get l).active = true ↔ isActive s l :=
  Option.isSome_iff_ne_none

/-- What a command can do to an envelope: nothing; or, in an active layer, EnvNoteOn in the voice a NOTE_ON claims,
EnvNoteOff in the voice a NOTE_OFF selects, or a block. -/
theorem exec_env_cases {i : Instr} {s t : State} (h : exec i s = .next t) (v : Fin 8) (l : Fin 4) :
    t.env v l = s.env v l ∨
      (isActive s l ∧
        ((v = s.findNext ∧ (∃ n k, i = .noteOn n k) ∧ t.env v l = (s.env v l).noteOn s.cfg (s.patch.get l)) ∨
         ((s.env v l).state ≠ .idle ∧ (∃ n, i = .noteOff n) ∧
            t.env v l = (s.env v l).noteOff s.cfg (s.patch.get l)) ∨
         (Synthesizes s i ∧ t.env v l = (s.blockState (synthesized s i)).env v l))) := by
  obtain ⟨-, rfl⟩ | ⟨-, rfl⟩ := exec_cases h
  case inr => exact .inl rfl
  rw [advance_env]
  by_cases hl : (s.patch.get l).shape = none
  · exact .inl (effect_env_of_inactive i s hl v)
  have hactive := (active_iff_isActive s l).mpr hl
  obtain he | ⟨n, k, hi, he⟩ | ⟨n, hi, he⟩ | ⟨hs, he⟩ := effect_voices_cases i s
  · exact .inl (by rw [State.env, he, State.env])
  · by_cases hv : v = s.findNext
    · refine .inr ⟨hl, .inl ⟨hv, ⟨n, k, hi⟩, ?_⟩⟩
      simp [State.env, he, hv, hactive]
    · exact .inl (by simp [State.env, he, hv])
  · obtain hv | hv := releaseVoice_get s (noteOfOperand n) v
    · exact .inl (by rw [State.env, he, hv, State.env])
    · have hrelease : (effect i s).env v l = (s.env v l).releaseUnlessIdle s.cfg (s.patch.get l) := by
        simp [State.env, he, hv, hactive]
      obtain ⟨-, hkept⟩ | ⟨hidle, hoff⟩ := releaseUnlessIdle_cases s.cfg (s.patch.get l) (s.env v l)
      · exact .inl (hrelease.trans hkept)
      · exact .inr ⟨hl, .inr (.inl ⟨hidle, ⟨n, hi⟩, hrelease.trans hoff⟩)⟩
  · exact .inr ⟨hl, .inr (.inr ⟨hs, by rw [State.env, he, State.env]⟩)⟩

/-- Settles O19: a tick takes the transition its state has or none, a note command enters ATTACK or RELEASE, and a block
leads where ticks lead. -/
theorem noOtherEnvelopeTransition : Obligations.NoOtherEnvelopeTransition := by
  refine ⟨fun c p n e => ?tick, fun i s t v l h hne => ?command⟩
  case tick =>
    by_cases hstays : e.Stays p n
    · exact .inl (tick_state_eq_iff.mpr hstays)
    · exact .inr ((tick_of_not_stays hstays).imp_right (Or.imp_right fun ⟨hs, ht, _⟩ => ⟨hs, ht⟩))
  case command =>
    obtain he | ⟨hl, ⟨hv, hi, he⟩ | ⟨hidle, hi, he⟩ | ⟨hs, he⟩⟩ := exec_env_cases h v l
    · exact absurd (congrArg _ he) hne
    · exact ⟨hl, .inl ⟨hv, by rw [he, noteOn_state], hi⟩⟩
    · exact ⟨hl, .inr (.inl ⟨hidle, by rw [he, noteOff_state], hi⟩)⟩
    · have hleads : (s.env v l).LeadsTo (t.env v l) := he ▸ blockState_leadsTo s _ v l
      exact ⟨hl, .inr (.inr ⟨hs.imp_right And.left, hleads.state_cases.resolve_left hne⟩)⟩

/-- Settles O37: a RENDER leads where ticks lead. -/
theorem levelsAreMonotonicOverARender : Obligations.LevelsAreMonotonicOverARender := by
  intro n s t v l h
  have hleads : (s.env v l).LeadsTo (t.env v l) := by
    obtain he | ⟨-, ⟨-, ⟨_, _, hi⟩, -⟩ | ⟨-, ⟨_, hi⟩, -⟩ | ⟨-, he⟩⟩ := exec_env_cases h v l
    · exact he ▸ leadsTo_refl _
    · cases hi
    · cases hi
    · exact he ▸ blockState_leadsTo s _ v l
  refine ⟨fun hs ht => ?attack, fun hs ht => ?decay, fun hs => ?release, fun hs => ?held⟩
  case attack => simpa [LayerEnv.LeadsTo, hs, ht] using hleads
  case decay => simpa [LayerEnv.LeadsTo, hs, ht] using hleads
  case release => simpa [LayerEnv.LeadsTo, hs] using hleads
  case held => obtain hs | hs := hs <;> simpa [LayerEnv.LeadsTo, hs] using hleads

/-! ## Stuck envelopes (rule R239) -/

/-- Rate 0 before the end of the stage: no batch, however long, fires the transition. -/
theorem stays_of_rate_eq_zero {p : PatchLayer} {e : LayerEnv} (hrate : e.rate = 0)
    (h : (e.state = .attack ∧ e.level.toNat < 2 ^ 32 - 1) ∨ (e.state = .decay ∧ e.level.toNat > p.sustain.toNat) ∨
      (e.state = .release ∧ e.level ≠ 0)) (n : Nat) : e.Stays p n := by
  obtain ⟨hs, hl⟩ | ⟨hs, hl⟩ | ⟨hs, hl⟩ := h
  · simpa [LayerEnv.Stays, hs, hrate, envMax] using hl
  · simpa [LayerEnv.Stays, hs, hrate] using hl
  · simpa [LayerEnv.Stays, hs, hrate, BitVec.toNat_eq, Nat.pos_iff_ne_zero] using hl

/-- An envelope that no batch changes, no block changes. -/
theorem blockState_env_of_tick_fixed {s : State} {v : Fin 8} {l : Fin 4}
    (h : ∀ n, (s.env v l).tick s.cfg (s.patch.get l) n = s.env v l) (n : Nat) :
    (s.blockState n).env v l = s.env v l := by
  cases hmode : s.cfg.envTickMode with
  | perSample =>
    rw [blockState_env_perSample n s hmode, Function.iterate_fixed (h 1), ite_self]
  | perBlock =>
    rw [blockState_env_perBlock n s hmode, h n, ite_self]

/-- Settles O24: at rate 0 a tick that stays moves nothing, and no command but the note commands does more than ticks. -/
theorem stuckEnvelopeStaysUntilANoteCommand : Obligations.StuckEnvelopeStaysUntilANoteCommand := by
  intro i s t v l h hrate hstuck hon hoff
  obtain he | ⟨-, ⟨-, ⟨n, k, hi⟩, -⟩ | ⟨-, ⟨n, hi⟩, -⟩ | ⟨-, he⟩⟩ := exec_env_cases h v l
  · exact he
  · exact absurd hi (hon n k)
  · exact absurd hi (hoff n)
  · have hfixed : ∀ n, (s.env v l).tick s.cfg (s.patch.get l) n = s.env v l := fun n =>
      (tick_of_stays (stays_of_rate_eq_zero hrate hstuck n)).trans (moved_of_rate_eq_zero hrate)
    exact he.trans (blockState_env_of_tick_fixed hfixed _)

end Sys2Proof.Machine
end

section
/-! SUPPORT. The note commands (45_voice_allocator.md rules R275 to R277): what NOTE_ON writes in the voice it claims and
NOTE_OFF in the voice it releases, and that nothing else changes. -/

namespace Sys2Proof.Machine

open Sys2Proof.Claims

theorem toNat_noteOfOperand {note : BitVec 8} (h : note.toNat ≤ 127) : (noteOfOperand note).toNat = note.toNat :=
  Nat.mod_eq_of_lt (by omega)

/-- The envelopes of the voice a NOTE_ON claims (rules R228, R276). -/
theorem claimVoice_env_findNext (s : State) (n : BitVec 7) (l : Fin 4) :
    (s.claimVoice n).env s.findNext l =
      if (s.patch.get l).active then (s.env s.findNext l).noteOn s.cfg (s.patch.get l) else s.env s.findNext l := by
  simp [State.env]

/-- The rate of EnvNoteOn (rules R227, R228). -/
theorem toNat_noteOn_rate (c : Config) (p : PatchLayer) (e : LayerEnv) :
    (e.noteOn c p).rate.toNat = rateValue c (2 ^ 32 - 1 - e.level.toNat) p.attack :=
  toNat_mkRate_durationSamples c (Nat.sub_le _ _) _

/-- The rate of EnvNoteOff (rules R227, R229). -/
theorem toNat_noteOff_rate (c : Config) (p : PatchLayer) (e : LayerEnv) :
    (e.noteOff c p).rate.toNat = rateValue c e.level.toNat p.release :=
  toNat_mkRate_durationSamples c (Nat.le_pred_of_lt e.level.isLt) _

/-- Settles O42: the effect of a legal NOTE_ON is `claimVoice`, field by field. -/
theorem noteOnClaimsTheNextVoice : Obligations.NoteOnClaimsTheNextVoice := by
  intro note vel s hnote
  refine ⟨_, exec_wf (by simpa [Instr.wf] using hnote), ?_⟩
  refine ⟨by simp [toNat_noteOfOperand hnote], by simp [toNat_noteOfOperand hnote], by simp, by simp,
    fun l hl => ?active, fun l hl => ?inactive, fun v hv => by simp [hv], rfl⟩
  case active =>
    rw [advance_env, effect_noteOn, claimVoice_env_findNext, if_pos ((active_iff_isActive s l).mpr hl)]
    exact ⟨rfl, rfl, toNat_noteOn_rate _ _ _⟩
  case inactive =>
    rw [advance_env, effect_noteOn, claimVoice_env_findNext, if_neg (mt (active_iff_isActive s l).mp hl)]

section
variable {s : State} {n : BitVec 7} {v : Fin 8}

theorem releaseVoice_of_find (h : s.findForNoteOff n = some v) :
    s.releaseVoice n =
      { s with voices := s.voices.modify v (Voice.onActive s.patch (LayerEnv.releaseUnlessIdle s.cfg)) } := by
  rw [State.releaseVoice, h]

/-- The voices after a NOTE_OFF that selects a voice (rule R277). -/
theorem releaseVoice_get_of_find (h : s.findForNoteOff n = some v) (u : Fin 8) :
    (s.releaseVoice n).voices.get u =
      if u = v then (s.voices.get u).onActive s.patch (LayerEnv.releaseUnlessIdle s.cfg) else s.voices.get u := by
  simp [releaseVoice_of_find h]

/-- The envelopes of the voice a NOTE_OFF selects (rules R229, R277). -/
theorem releaseVoice_env_of_find (h : s.findForNoteOff n = some v) (l : Fin 4) :
    (s.releaseVoice n).env v l =
      if (s.patch.get l).active then (s.env v l).releaseUnlessIdle s.cfg (s.patch.get l) else s.env v l := by
  simp [State.env, releaseVoice_get_of_find h]

end

/-- Settles O43: the effect of a legal NOTE_OFF is `releaseVoice`, which without a selected voice does nothing. -/
theorem noteOffReleasesTheSelectedVoice : Obligations.NoteOffReleasesTheSelectedVoice := by
  intro note s hnote
  have hexec : exec (.noteOff note) s = .next (s.releaseVoice (noteOfOperand note)).advance :=
    exec_wf (by simpa [Instr.wf] using hnote)
  refine ⟨fun hnone => ?none, fun v hv => ⟨_, hexec, ?some⟩⟩
  case none =>
    have hsame : s.releaseVoice (noteOfOperand note) = s := by rw [State.releaseVoice, noteOfOperand, hnone]
    rw [hexec, hsame]
    rfl
  case some =>
    have hfind : s.findForNoteOff (noteOfOperand note) = some v := hv
    have hget := releaseVoice_get_of_find hfind
    have henv := releaseVoice_env_of_find hfind
    refine ⟨fun l hl hidle => ?active, fun l hl => ?kept, by simp [hget], by simp [hget], by simp [hget], by simp [hget],
      fun u hu => by simp [hget, hu], ?frame⟩
    case active =>
      rw [advance_env, henv, if_pos ((active_iff_isActive s l).mpr hl), LayerEnv.releaseUnlessIdle, if_neg hidle]
      exact ⟨rfl, rfl, toNat_noteOff_rate _ _ _⟩
    case kept =>
      rw [advance_env, henv]
      obtain hl | hidle := hl
      · exact if_neg (mt (active_iff_isActive s l).mp hl)
      · rw [LayerEnv.releaseUnlessIdle, if_pos hidle, ite_self]
    case frame => rw [releaseVoice_of_find hfind]; rfl

end Sys2Proof.Machine
end

section
/-! SUPPORT. The duration LUT in exact reals (44_envelope.md rules R220, R221): the integer comparison behind an entry
(log 9) is the comparison with the exact taper, so the search finds its floor. -/

namespace Sys2Proof.Machine

/-! ## The exact taper -/

/-- `t_min * (t_max / t_min) ^ (i / ENV_MAX_INDEX)`, before its truncation (rule R220). -/
noncomputable def exactDuration (sampleRate maxIndex i : Nat) : ℝ :=
  ((sampleRate : ℝ) / 1000) * (((sampleRate : ℝ) * 10) / ((sampleRate : ℝ) / 1000)) ^ ((i : ℝ) / (maxIndex : ℝ))

section
variable {rate m : Nat}

theorem exactDuration_nonneg (rate m i : Nat) : 0 ≤ exactDuration rate m i := by
  unfold exactDuration
  positivity

/-- `t_max / t_min` is 10^4 at every sample rate. -/
theorem exactDuration_eq (hrate : 0 < rate) (m i : Nat) :
    exactDuration rate m i = (rate : ℝ) / 1000 * (10 ^ 4 : ℝ) ^ ((i : ℝ) / (m : ℝ)) := by
  have hne : (rate : ℝ) ≠ 0 := Nat.cast_ne_zero.mpr hrate.ne'
  have hratio : (rate : ℝ) * 10 / ((rate : ℝ) / 1000) = 10 ^ 4 := by
    field_simp
    norm_num
  rw [exactDuration, hratio]

theorem exactDuration_zero (hrate : 0 < rate) (m : Nat) : exactDuration rate m 0 = (rate : ℝ) / 1000 := by
  simp [exactDuration_eq hrate]

theorem exactDuration_last (hrate : 0 < rate) (hm : 0 < m) : exactDuration rate m m = ((10 * rate : Nat) : ℝ) := by
  rw [exactDuration_eq hrate, div_self (Nat.cast_ne_zero.mpr hm.ne'), Real.rpow_one]
  push_cast
  ring

theorem exactDuration_mono (hrate : 0 < rate) {i j : Nat} (h : i ≤ j) : exactDuration rate m i ≤ exactDuration rate m j := by
  rw [exactDuration_eq hrate, exactDuration_eq hrate]
  gcongr
  norm_num

/-- The identity behind `durationReaches`: the exact value to the power of the largest index, cleared of denominators. -/
theorem thousand_exactDuration_pow (hrate : 0 < rate) (hm : 0 < m) (i : Nat) :
    (1000 * exactDuration rate m i) ^ m = (rate : ℝ) ^ m * 10 ^ (4 * i) := by
  have hroot : ((10 ^ 4 : ℝ) ^ ((i : ℝ) / (m : ℝ))) ^ m = 10 ^ (4 * i) := by
    rw [← Real.rpow_mul_natCast (by positivity), div_mul_cancel₀ _ (Nat.cast_ne_zero.mpr hm.ne'), Real.rpow_natCast,
      pow_mul]
  rw [exactDuration_eq hrate, ← mul_assoc, mul_div_cancel₀ _ (by norm_num), mul_pow, hroot]

/-! ## The search finds the truncated value -/

theorem durationReaches_iff (hrate : 0 < rate) (hm : 0 < m) (i r : Nat) :
    durationReaches rate m i r = true ↔ (r : ℝ) ≤ exactDuration rate m i := by
  calc durationReaches rate m i r = true
      ↔ (1000 * (r : ℝ)) ^ m ≤ (1000 * exactDuration rate m i) ^ m := by
        rw [thousand_exactDuration_pow hrate hm, durationReaches, decide_eq_true_eq]
        exact_mod_cast Iff.rfl
    _ ↔ 1000 * (r : ℝ) ≤ 1000 * exactDuration rate m i :=
        pow_le_pow_iff_left₀ (by positivity) (mul_nonneg (by norm_num) (exactDuration_nonneg _ _ _)) hm.ne'
    _ ↔ (r : ℝ) ≤ exactDuration rate m i := mul_le_mul_iff_right₀ (by norm_num)

theorem largestFrom_durationReaches (hrate : 0 < rate) (hfit : rate < 429496729) (hm : 0 < m) {i : Nat} (hi : i ≤ m) :
    largestFrom (durationReaches rate m i) 32 0 = ⌊exactDuration rate m i⌋₊ := by
  have hstart : durationReaches rate m i 0 = true := by
    rw [durationReaches_iff hrate hm, Nat.cast_zero]
    exact exactDuration_nonneg rate m i
  have hend : durationReaches rate m i (0 + 2 ^ 32) = false := by
    rw [← Bool.not_eq_true, durationReaches_iff hrate hm, not_le]
    calc exactDuration rate m i ≤ exactDuration rate m m := exactDuration_mono hrate hi
      _ = ((10 * rate : Nat) : ℝ) := exactDuration_last hrate hm
      _ < ((0 + 2 ^ 32 : Nat) : ℝ) := Nat.cast_lt.mpr (by omega)
  obtain ⟨-, -, hreached, hnext⟩ := largestFrom_spec _ 32 0 hstart hend
  rw [← Bool.not_eq_true, durationReaches_iff hrate hm, not_le] at hnext
  rw [eq_comm, Nat.floor_eq_iff (exactDuration_nonneg rate m i)]
  exact ⟨(durationReaches_iff hrate hm i _).mp hreached, by exact_mod_cast hnext⟩

end

theorem toNat_memReadEnvlut (c : Config) (i : Nat) : (memReadEnvlut c i).toNat = durationOf c i := by
  have hrange := (largestFrom_range (durationReaches c.sampleRate c.envMaxIndex i) 32 0).2
  rw [memReadEnvlut, BitVec.toNat_ofNat]
  exact Nat.mod_eq_of_lt (by rw [durationOf]; omega)

theorem envMaxIndex_pos (c : Config) : 0 < c.envMaxIndex := by
  rw [Config.envMaxIndex]
  cases c.envIndexBits <;> decide

theorem toNat_memReadEnvlut_eq_floor {c : Config} (hrate : 0 < c.sampleRate) (hfit : c.sampleRate < 429496729) {i : Nat}
    (hi : i ≤ c.envMaxIndex) :
    (memReadEnvlut c i).toNat = max 1 ⌊exactDuration c.sampleRate c.envMaxIndex i⌋₊ := by
  rw [toNat_memReadEnvlut, durationOf, largestFrom_durationReaches hrate hfit (envMaxIndex_pos c) hi]

/-- Settles O57: the entry is what the search finds, and that is the floor of the exact value. -/
theorem durationLutIsTheTruncatedTaper : Obligations.DurationLutIsTheTruncatedTaper := fun _ _ hrate hfit hi =>
  toNat_memReadEnvlut_eq_floor (Nat.lt_of_lt_of_le (by decide) hrate) hfit hi

/-- Settles O58: the ends and the order of the exact taper, truncated. -/
theorem durationLutEndsAndOrder : Obligations.DurationLutEndsAndOrder := by
  intro c hwf
  obtain ⟨hlow, hfit, -, -⟩ := of_decide_eq_true hwf
  have hrate : 0 < c.sampleRate := by omega
  have hentry := fun {i} => toNat_memReadEnvlut_eq_floor (i := i) hrate hfit
  refine ⟨?first, ?last, fun i hi => ?order⟩
  case first =>
    rw [hentry (Nat.zero_le _), exactDuration_zero hrate, Nat.floor_div_ofNat, Nat.floor_natCast]
  case last =>
    rw [hentry le_rfl, exactDuration_last hrate (envMaxIndex_pos c), Nat.floor_natCast]
    omega
  case order =>
    rw [hentry hi.le, hentry hi]
    exact max_le_max_left 1 (Nat.floor_mono (exactDuration_mono hrate (Nat.le_succ i)))

end Sys2Proof.Machine
end

section
/-! SUPPORT. The voice allocator (45_voice_allocator.md rules R270 to R274, R278, R280): the predicates free and sounding as
the rules word them, the two scans as the library's `List.argmin` over the voices in ascending order, and what the
selections return. -/

namespace Sys2Proof.Machine

open Sys2Proof.Claims

/-! ## Free and sounding voices -/

theorem mem_layerOrder (l : Fin 4) : l ∈ layerOrder := by
  revert l; decide

theorem free_iff_isFree (s : State) (v : Fin 8) : s.free v = true ↔ isFree s v := by
  simp [State.free, isFree, mem_layerOrder, State.active, ← active_iff_isActive, ← Bool.not_eq_true, imp_iff_not_or]

theorem soundingState_iff (e : EnvState) :
    e.soundingState = true ↔ e = .attack ∨ e = .decay ∨ e = .sustain := by
  cases e <;> decide

theorem sounding_iff_isSounding (s : State) (v : Fin 8) : s.sounding v = true ↔ isSounding s v := by
  simp [State.sounding, isSounding, mem_layerOrder, State.active, ← active_iff_isActive, soundingState_iff]

/-- Whether a voice is free depends on the patch and on its envelopes only (rule R270). -/
theorem isFree_congr {s t : State} {v : Fin 8} (hpatch : t.patch = s.patch) (henv : ∀ l, t.env v l = s.env v l) :
    isFree t v ↔ isFree s v := by
  simp [isFree, isActive, hpatch, henv]

/-! ## The scan order -/

theorem voiceOrder_eq_finRange : voiceOrder = List.finRange 8 := rfl

theorem mem_voiceOrder (v : Fin 8) : v ∈ voiceOrder := List.mem_finRange v

/-- In an ascending list the earlier of two members is the smaller. -/
theorem le_of_idxOf_le {xs : List (Fin 8)} (hsorted : xs.SortedLT) {a b : Fin 8} (ha : a ∈ xs) (hb : b ∈ xs)
    (h : xs.idxOf a ≤ xs.idxOf b) : a ≤ b :=
  (hsorted.getIso xs).symm.le_iff_le (x := ⟨a, ha⟩) (y := ⟨b, hb⟩) |>.mp h

/-- `v` is the oldest voice with `P`, the one with the lowest index among equals (rules R272, R274). -/
def IsFirstOldest (s : State) (P : Fin 8 → Prop) (v : Fin 8) : Prop :=
  P v ∧ (∀ u, P u → ts s v ≤ ts s u) ∧ ∀ u, u < v → P u → ts s v < ts s u

theorem isFirstOldest_of_argmin {s : State} {p : Fin 8 → Bool} {v : Fin 8}
    (h : (voiceOrder.filter p).argmin s.tsOf = some v) : IsFirstOldest s (p · = true) v := by
  obtain ⟨hv, hle, hfirst⟩ := List.argmin_eq_some_iff.mp h
  have hmem : ∀ u, p u = true → u ∈ voiceOrder.filter p := fun u hu => List.mem_filter.mpr ⟨mem_voiceOrder u, hu⟩
  have hsorted : (voiceOrder.filter p).SortedLT := ((List.sortedLT_finRange 8).pairwise.filter p).sortedLT
  refine ⟨(List.mem_filter.mp hv).2, fun u hu => hle u (hmem u hu), fun u huv hu => ?_⟩
  by_contra hts
  exact huv.not_ge (le_of_idxOf_le hsorted hv (hmem u hu) (hfirst u (hmem u hu) (not_lt.mp hts)))

/-! ## The two scans -/

theorem oldestVoice_eq_argmin (s : State) : voiceOrder.argmin s.tsOf = some s.oldestVoice := by
  refine List.foldl_hom some fun b v => ?_
  simp only [List.argAux, State.older, apply_ite some]

theorem oldestVoice_isFirstOldest (s : State) : IsFirstOldest s (fun _ => True) s.oldestVoice := by
  have h := isFirstOldest_of_argmin (s := s) (p := fun _ => true) (v := s.oldestVoice)
    (by rw [List.filter_true]; exact oldestVoice_eq_argmin s)
  simpa using h

theorem findForNoteOff_eq_argmin (s : State) (n : BitVec 7) :
    s.findForNoteOff n =
      (voiceOrder.filter fun v => decide ((s.voices.get v).note = n ∧ s.sounding v)).argmin s.tsOf := by
  rw [List.argmin, List.foldl_filter, State.findForNoteOff]
  congr 1
  funext best v
  cases best with
  | none => simp only [State.olderHolding, decide_eq_true_eq, List.argAux]
  | some b => simp only [State.olderHolding, decide_eq_true_eq, List.argAux, State.older, apply_ite some]

theorem holds_iff (s : State) (n : BitVec 7) (v : Fin 8) :
    holds s n v ↔ decide ((s.voices.get v).note = n ∧ s.sounding v) = true := by
  rw [decide_eq_true_iff, sounding_iff_isSounding, holds]

theorem findForNoteOff_eq_none_iff (s : State) (n : BitVec 7) : s.findForNoteOff n = none ↔ ∀ v, ¬ holds s n v := by
  simp only [findForNoteOff_eq_argmin, List.argmin_eq_none, List.filter_eq_nil_iff, ← holds_iff, mem_voiceOrder,
    forall_true_left]

/-- `find_next` by its two cases (rule R272). -/
theorem findNext_cases (s : State) :
    (isFree s s.findNext ∧ ∀ u, u < s.findNext → ¬ isFree s u) ∨
      ((∀ u, ¬ isFree s u) ∧ s.findNext = s.oldestVoice) := by
  simp only [← free_iff_isFree, Bool.not_eq_true, State.findNext, voiceOrder_eq_finRange,
    ← Fin.find?_eq_find?_finRange]
  split
  next v h => exact .inl (Fin.find?_eq_some_iff.mp h)
  next h => exact .inr ⟨Fin.find?_eq_none_iff.mp h, rfl⟩

theorem findNext_isFree {s : State} {u : Fin 8} (h : isFree s u) : isFree s s.findNext := by
  obtain ⟨hfree, -⟩ | ⟨hnone, -⟩ := findNext_cases s
  · exact hfree
  · exact absurd h (hnone u)

/-! ## The selections -/

/-- Settles O40: the first free voice, else the first oldest of all. -/
theorem findNextIsFirstFreeElseOldest : Obligations.FindNextIsFirstFreeElseOldest := by
  intro s
  obtain hfree | ⟨hnone, hnext⟩ := findNext_cases s
  · exact .inl hfree
  · obtain ⟨-, hle, hlt⟩ := oldestVoice_isFirstOldest s
    rw [hnext]
    exact .inr ⟨hnone, fun u => hle u trivial, fun u hu => hlt u hu trivial⟩

/-- Settles O41: the scan is an `argmin` over the holders. -/
theorem findForNoteOffIsOldestSoundingHolder : Obligations.FindForNoteOffIsOldestSoundingHolder := by
  intro s n
  refine ⟨findForNoteOff_eq_none_iff s n, fun v hv => ?_⟩
  have h := isFirstOldest_of_argmin ((findForNoteOff_eq_argmin s n).symm.trans hv)
  simpa only [IsFirstOldest, ← holds_iff] using h

/-! ## NOTE_ON after NOTE_ON -/

theorem claimVoice_env_of_ne {s : State} {v : Fin 8} (h : v ≠ s.findNext) (n : BitVec 7) (l : Fin 4) :
    (s.claimVoice n).env v l = s.env v l := by
  simp [State.env, h]

/-- The voice a NOTE_ON claims is not free afterwards while a layer is active: that layer is in ATTACK (rule R228). -/
theorem claimVoice_not_isFree {s : State} {l : Fin 4} (hl : isActive s l) (n : BitVec 7) :
    ¬ isFree (s.claimVoice n) s.findNext := by
  intro hfree
  have hidle := hfree l hl
  rw [claimVoice_env_findNext, if_pos ((active_iff_isActive s l).mpr hl), noteOn_state] at hidle
  cases hidle

/-- Settles O44: after the first NOTE_ON the voice it claimed is not free and the others are as they were. -/
theorem nextNoteOnClaimsAnotherFreeVoice : Obligations.NextNoteOnClaimsAnotherFreeVoice := by
  intro note vel s t u l hnote hl hu hfree hexec
  obtain rfl : (s.claimVoice (noteOfOperand note)).advance = t :=
    Host.Outcome.next.inj ((exec_wf (by simpa [Instr.wf] using hnote)).symm.trans hexec)
  have hother : ∀ v, v ≠ s.findNext → (isFree (s.claimVoice (noteOfOperand note)).advance v ↔ isFree s v) :=
    fun v hv => isFree_congr rfl (claimVoice_env_of_ne hv _)
  have hnext := findNext_isFree ((hother u hu).mpr hfree)
  have hne : (s.claimVoice (noteOfOperand note)).advance.findNext ≠ s.findNext :=
    fun heq => claimVoice_not_isFree hl (noteOfOperand note) (heq ▸ hnext)
  exact ⟨hne, (hother _ hne).mp hnext⟩

/-! ## No active layer -/

section
variable {s : State} (hinactive : ∀ l, ¬ isActive s l)
include hinactive

theorem isFree_of_inactive (v : Fin 8) : isFree s v := fun l hl => absurd hl (hinactive l)

theorem findNext_eq_zero_of_inactive : s.findNext = 0 := by
  obtain ⟨-, hlower⟩ | ⟨hnone, -⟩ := findNext_cases s
  · exact not_not.mp fun h => hlower 0 (Fin.pos_of_ne_zero h) (isFree_of_inactive hinactive 0)
  · exact absurd (isFree_of_inactive hinactive 0) (hnone 0)

theorem findForNoteOff_eq_none_of_inactive (n : BitVec 7) : s.findForNoteOff n = none :=
  (findForNoteOff_eq_none_iff s n).mpr fun _ ⟨_, l, hl, _⟩ => hinactive l hl

theorem mixSample_eq_zero_of_inactive : s.mixSample = 0 := by
  have hcontribution : ∀ v l, s.contribution v l = 0 := fun v l => by
    rw [State.contribution, not_not.mp (hinactive l)]
  simp [State.mixSample, State.mixSum, hcontribution, Eight.sum, Four.sum, scaleGain, tdiv]

end

/-- Settles O45: every voice is free, none is sounding, and no layer contributes; what NOTE_ON and NOTE_OFF do is O42 and
O43. -/
theorem allLayersInactive : Obligations.AllLayersInactive := by
  intro s note vel hinactive hnote
  have hnext := findNext_eq_zero_of_inactive hinactive
  obtain ⟨hnoVoice, -⟩ := noteOffReleasesTheSelectedVoice note s hnote
  obtain ⟨t, hexec, hnoteOf, -, -, -, -, henv, hother, -⟩ := noteOnClaimsTheNextVoice note vel s hnote
  rw [hnext] at hnoteOf henv hother
  refine ⟨hnext, hnoVoice (findForNoteOff_eq_none_of_inactive hinactive _), mixSample_eq_zero_of_inactive hinactive,
    t, hexec, hnoteOf, fun v l => ?_, hother⟩
  by_cases hv : v = 0
  · rw [hv]; exact henv l (hinactive l)
  · rw [State.env, hother v hv, State.env]

end Sys2Proof.Machine
end

section
/-! SUPPORT. NOP and the parameter commands (46_parameters.md): the map of sustain values, what a legal value writes, and
the two shapes of a parameter command, all four layers or one, each with its frame. -/

namespace Sys2Proof.Machine

open Sys2Proof.Claims

/-! ## The values written -/

theorem susMap_eq (v : Nat) : susMap v = v * (2 ^ 32 - 1) / 127 := by
  rw [susMap, envMax, Nat.mul_comm]

/-- A step of the operand adds more than 127 to the dividend, so at least 1 to the quotient. -/
theorem susMap_strictMono : StrictMono susMap := by
  intro a b hab
  simp only [susMap, envMax]
  omega

/-- Settles O50: the value 0x7FFFFFFF lies between those of 63 and 64, and the map is strictly increasing. -/
theorem sustainMap : Obligations.SustainMap := by
  refine ⟨fun v _ => susMap_eq v, rfl, rfl, fun a b hab _ => susMap_strictMono hab, rfl, rfl, rfl, fun v _ => ?_⟩
  obtain hv | hv := Nat.lt_or_ge 63 v
  · have hlow : susMap 64 ≤ susMap v := susMap_strictMono.monotone hv
    exact ne_of_gt (lt_of_lt_of_le (by decide) hlow)
  · have hhigh : susMap v ≤ susMap 63 := susMap_strictMono.monotone hv
    exact ne_of_lt (lt_of_le_of_lt hhigh (by decide))

/-- The value of a legal operand fits the u32 of SUSTAIN: it is at most that of 127 (rule R304). -/
theorem toNat_sustainOfValue {v : Index14} (h : v.toNat ≤ 127) :
    (sustainOfValue v).toNat = v.toNat * (2 ^ 32 - 1) / 127 := by
  have hmax : susMap v.toNat ≤ susMap 127 := susMap_strictMono.monotone h
  rw [← susMap_eq, sustainOfValue, BitVec.toNat_ofNat, Nat.mod_eq_of_lt (lt_of_le_of_lt hmax (by decide))]

theorem toNat_sevenBitOfValue {v : Index14} (h : v.toNat ≤ 127) : (sevenBitOfValue v).toNat = v.toNat := by
  rw [sevenBitOfValue, BitVec.toNat_ofNat, Nat.mod_eq_of_lt (Nat.lt_succ_of_le h)]

theorem shapeNumber_shapeOfValue {v : Index14} (h : v.toNat ≤ 4) : shapeNumber (shapeOfValue v) = v.toNat := by
  rw [shapeOfValue]
  generalize v.toNat = n at h ⊢
  interval_cases n <;> rfl

theorem shapeOfValue_shapeNumber (w : Option Wave) : shapeOfValue (.ofNat 14 (shapeNumber w)) = w := by
  rcases w with _ | (_ | _ | _ | _) <;> rfl

theorem toNat_ofNat_shapeNumber_le (w : Option Wave) : (BitVec.ofNat 14 (shapeNumber w)).toNat ≤ 4 := by
  rcases w with _ | (_ | _ | _ | _) <;> decide

/-- A change of one entry, undone by a second change of that entry. -/
theorem Four.modify_modify_of_undoes {α : Type} {x : Four α} {i : Fin 4} {f g : α → α}
    (h : g (f (x.get i)) = x.get i) : (x.modify i f).modify i g = x := by
  refine Four.ext_get fun j => ?_
  by_cases hj : j = i
  · rw [hj, Four.get_modify, if_pos rfl, Four.get_modify, if_pos rfl, h]
  · rw [Four.get_modify, if_neg hj, Four.get_modify, if_neg hj]

/-! ## The two shapes of a parameter command -/

section
variable {i : Instr} {s : State} {l : Fin 4} {f : PatchLayer → PatchLayer} (hwf : i.wf s.cfg = true)
include hwf

/-- A legal command whose effect is on one layer ends with that layer changed and CP advanced. -/
theorem exec_of_effect_eq_updateLayer (heffect : effect i s = s.updateLayer l f) :
    exec i s = .next { s with patch := s.patch.modify l f, cp := s.cp + 1 } := by
  rw [exec_wf hwf, heffect]
  rfl

/-- Rule R303 and R309 to R313: one layer is written, the other layers and all other registers but CP are left. -/
theorem exec_writes_one_layer (heffect : effect i s = s.updateLayer l f) :
    ∃ t, exec i s = .next t ∧ t.patch.get l = f (s.patch.get l) ∧ (∀ k, k ≠ l → t.patch.get k = s.patch.get k) ∧
      t = { s with patch := t.patch, cp := s.cp + 1 } :=
  ⟨_, exec_of_effect_eq_updateLayer hwf heffect, by rw [Four.get_modify, if_pos rfl],
    fun _ hk => by rw [Four.get_modify, if_neg hk], rfl⟩

/-- A legal command whose effect is on the patch alone makes of each layer what `layerAfter` says, and leaves all other
registers but CP. -/
theorem exec_writes_patch (heffect : effect i s = { s with patch := (effect i s).patch }) :
    ∃ t, exec i s = .next t ∧ (∀ k, t.patch.get k = layerAfter i k (s.patch.get k)) ∧
      t = { s with patch := t.patch, cp := s.cp + 1 } :=
  ⟨(effect i s).advance, exec_wf hwf, effect_patch_get i s, congrArg State.advance heffect⟩

end

/-! ## The commands -/

/-- Settles O46: NOP has no effect, so it is the advance of CP. -/
theorem nopChangesCpOnly : Obligations.NopChangesCpOnly := fun _ => exec_wf (i := .nop) rfl

/-- Settles O47, each controller by `exec_writes_patch`. -/
theorem controllersWriteAllLayers : Obligations.ControllersWriteAllLayers := by
  refine fun v s => ⟨fun hindex => ⟨?attack, ?decay, ?release⟩, fun hv => ?sustain⟩
  case attack => exact exec_writes_patch (i := .ctrlAttack v) (decide_eq_true hindex) rfl
  case decay => exact exec_writes_patch (i := .ctrlDecay v) (decide_eq_true hindex) rfl
  case release => exact exec_writes_patch (i := .ctrlRelease v) (decide_eq_true hindex) rfl
  case sustain =>
    obtain ⟨t, hexec, hlayers, hframe⟩ :=
      exec_writes_patch (i := .ctrlSustain v) (s := s) (decide_eq_true hv) rfl
    refine ⟨t, hexec, fun l => ?_, hframe⟩
    rw [hlayers l]
    exact ⟨toNat_sustainOfValue hv, rfl⟩

/-- Settles O48. -/
theorem controllerGainWritesTheGain : Obligations.ControllerGainWritesTheGain :=
  fun v _ hv => ⟨_, exec_wf (i := .ctrlGain v) (decide_eq_true hv), toNat_sevenBitOfValue hv, rfl⟩

/-- Settles O49, each command by `exec_writes_one_layer`. -/
theorem layerCommandsWriteOneLayer : Obligations.LayerCommandsWriteOneLayer := by
  refine fun l v s => ⟨fun hshape => ?shape, fun hindex => ⟨?attack, ?decay, ?release⟩, fun hv => ⟨?sustain, ?mix⟩⟩
  case shape =>
    obtain ⟨t, hexec, hlayer, hframe⟩ :=
      exec_writes_one_layer (i := .layerShape l v) (s := s) (decide_eq_true hshape) rfl
    refine ⟨t, hexec, ?_, ?_, hframe⟩ <;> rw [hlayer]
    exact shapeNumber_shapeOfValue hshape
  case attack => exact exec_writes_one_layer (i := .layerAttack l v) (decide_eq_true hindex) rfl
  case decay => exact exec_writes_one_layer (i := .layerDecay l v) (decide_eq_true hindex) rfl
  case release => exact exec_writes_one_layer (i := .layerRelease l v) (decide_eq_true hindex) rfl
  case sustain =>
    obtain ⟨t, hexec, hlayer, hframe⟩ :=
      exec_writes_one_layer (i := .layerSustain l v) (s := s) (decide_eq_true hv) rfl
    refine ⟨t, hexec, ?_, ?_, hframe⟩ <;> rw [hlayer]
    exact toNat_sustainOfValue hv
  case mix =>
    obtain ⟨t, hexec, hlayer, hframe⟩ :=
      exec_writes_one_layer (i := .layerMix l v) (s := s) (decide_eq_true hv) rfl
    refine ⟨t, hexec, ?_, ?_, hframe⟩ <;> rw [hlayer]
    exact toNat_sevenBitOfValue hv

/-- Settles O51: the second LAYER_SHAPE undoes the first on the one descriptor both write, and neither writes the
voices. -/
theorem muteAndUnmuteResumes : Obligations.MuteAndUnmuteResumes := by
  intro s l w hw
  refine ⟨_, exec_of_effect_eq_updateLayer (i := .layerShape l 4) rfl rfl, ?inactive, ?restored⟩
  case inactive =>
    rw [isActive, not_not, Four.get_modify, if_pos rfl]
    rfl
  case restored =>
    rw [exec_of_effect_eq_updateLayer (i := .layerShape l _) (decide_eq_true (toNat_ofNat_shapeNumber_le _)) rfl,
      Four.modify_modify_of_undoes]
    rw [shapeOfValue_shapeNumber, ← hw]

end Sys2Proof.Machine
end

section
/-! SUPPORT. The mixer (47_mixer.md rules R330 to R339): the model's sample is the value the statements spell out, sample `k`
of a block is computed from the state `atSample s k`, and with these RENDER is described in closed form. -/

namespace Sys2Proof.Machine

open Sys2Proof.Claims

/-! ## The value of a sample, spelled out -/

theorem oscValue_eq_oscSample (p : Word) (w : Wave) : oscValue p w = oscSample p w := by
  have hindex : bitsOf p 21 11 = phaseIndex p :=
    (bitsOf_eq_field p 21 11).trans (Nat.mod_eq_of_lt (phaseIndex_lt p))
  have hfrac : bitsOf p 0 21 = phaseFrac p := by simp [field, phaseFrac]
  simp only [oscValue, hindex, hfrac, oscSample, interpolate, asr]
  rw [Int.fdiv_eq_ediv_of_nonneg _ (by decide)]
  rfl

theorem layerValue_eq_contribution (s : State) (v : Fin 8) (l : Fin 4) : layerValue s v l = s.contribution v l := by
  unfold layerValue State.contribution
  cases (s.patch.get l).shape with
  | none => rfl
  | some w =>
    simp only [oscValue_eq_oscSample, scaleLayer, asr, tdiv]
    rw [Int.fdiv_eq_ediv_of_nonneg _ (by decide)]
    rfl

theorem sum_map_layerOrder (f : Fin 4 → Int) : (layerOrder.map f).sum = Four.sum f := by
  simp [layerOrder, Four.sum, add_assoc]

theorem sum_map_voiceOrder (f : Fin 8 → Int) : (voiceOrder.map f).sum = Eight.sum f := by
  simp [voiceOrder, Eight.sum, add_assoc]

theorem sampleValue_eq_mixSample (s : State) : sampleValue s = s.mixSample := by
  simp only [sampleValue, layerValue_eq_contribution, sum_map_layerOrder, sum_map_voiceOrder]
  rfl

/-! ## The state sample `k` is computed from -/

/-- Synthesis writes the phases, the envelopes, the meters and the counter, and nothing else. -/
theorem SameOutsideSynthesis.eq_update {s t : State} (h : SameOutsideSynthesis s t) :
    t = { s with
      voices := t.voices, peak := t.peak, runPeak := t.runPeak, sampleCounter := t.sampleCounter } := by
  rw [← h.cfg, ← h.patch, ← h.masterGain, ← h.dropoutCount, ← h.rejectCount, ← h.rejectCause, ← h.rejectWord,
    ← h.lookaheadFull, ← h.lookahead, ← h.cp, ← h.sinkOut, ← h.respOut, ← h.port, ← h.sinkReady]

theorem SameOutsideSynthesis.voice_eq_update {s t : State} (h : SameOutsideSynthesis s t) (v : Fin 8) :
    t.voices.get v = { s.voices.get v with
      phase := (t.voices.get v).phase, env := Four.ofFn (t.env v) } := by
  simp only [← h.note v, ← h.tune v, ← h.ts v]
  rfl

theorem sampleTicks_env (n : Nat) (s : State) (v : Fin 8) (l : Fin 4) :
    (State.sampleTicks n s).env v l = envAtSample s n v l := by
  unfold envAtSample
  cases hmode : s.cfg.envTickMode with
  | perSample =>
    rw [sampleTicks_env_perSample n s hmode, envAfter, PatchLayer.active]
    cases (s.patch.get l).shape <;> rfl
  | perBlock => exact sampleTicks_env_perBlock n s hmode v l

theorem sampleTicks_voices (n : Nat) (s : State) : (State.sampleTicks n s).voices = (atSample s n).voices := by
  refine Eight.ext_get fun v => ?_
  rw [(sampleTicks_same n s).voice_eq_update v, sampleTicks_phase, funext (sampleTicks_env n s v), atSample,
    Eight.get_ofFn]

/-- The fields a sample, and every later sample of the block, is computed from. -/
structure SoundsAs (s t : State) : Prop where
  cfg : t.cfg = s.cfg
  patch : t.patch = s.patch
  masterGain : t.masterGain = s.masterGain
  voices : t.voices = s.voices

theorem SoundsAs.sampleValue_eq {s t : State} (h : SoundsAs s t) : sampleValue t = sampleValue s := by
  simp only [sampleValue, layerValue, State.env, h.patch, h.masterGain, h.voices]

theorem SoundsAs.atSample {s t : State} (h : SoundsAs s t) (k : Nat) : SoundsAs (atSample s k) (atSample t k) := by
  have henv : envAtSample t k = envAtSample s k := by
    funext v l
    simp only [envAtSample, envAfter, State.env, h.cfg, h.patch, h.voices]
  refine ⟨h.cfg, h.patch, h.masterGain, ?_⟩
  simp only [Claims.atSample, h.voices, henv]

theorem SoundsAs.blockSample_eq {s t : State} (h : SoundsAs s t) (k : Nat) : blockSample t k = blockSample s k :=
  (h.atSample k).sampleValue_eq

theorem startBlock_soundsAs (s : State) : SoundsAs s s.startBlock := ⟨rfl, rfl, rfl, rfl⟩

/-- After `n` ticks the machine is where the statements put sample `n`. -/
theorem sampleTicks_soundsAs (n : Nat) (s : State) : SoundsAs (atSample s n) (State.sampleTicks n s) :=
  have h := sampleTicks_same n s
  ⟨h.cfg, h.patch, h.masterGain, sampleTicks_voices n s⟩

theorem mixSample_sampleTicks (n : Nat) (s : State) : (State.sampleTicks n s).mixSample = blockSample s n :=
  (sampleValue_eq_mixSample _).symm.trans (sampleTicks_soundsAs n s).sampleValue_eq

theorem blockSample_startBlock (s : State) (k : Nat) : blockSample s.startBlock k = blockSample s k :=
  (startBlock_soundsAs s).blockSample_eq k

theorem blockSample_zero (s : State) : blockSample s 0 = sampleValue s :=
  (mixSample_sampleTicks 0 s).symm.trans (sampleValue_eq_mixSample s).symm

/-! ## A block in closed form -/

theorem sampleOuts_eq_map (n : Nat) (s : State) :
    State.sampleOuts n s = (List.range n).map fun k => (State.sampleTicks k s).sampleOut := by
  induction n generalizing s with
  | zero => rfl
  | succ n ih =>
    rw [sampleOuts_succ, ih, List.range_succ_eq_map, List.map_cons, List.map_map]
    rfl

/-- The samples of a block are the saturated values of its samples (rules R333, R334). -/
theorem blockOut_eq_map (s : State) (n : Nat) :
    s.blockOut n = (List.range n).map fun k => outputPair (blockSample s k) := by
  simp only [State.blockOut, sampleOuts_eq_map, State.sampleOut, mixSample_sampleTicks, blockSample_startBlock]

/-- The envelopes after a block, in either tick mode (rules R235, R334). -/
theorem blockState_env (s : State) (n : Nat) (v : Fin 8) (l : Fin 4) :
    (s.blockState n).env v l = envAfterBlock s n v l := by
  unfold envAfterBlock
  cases hmode : s.cfg.envTickMode with
  | perSample =>
    rw [blockState_env_perSample n s hmode, PatchLayer.active]
    cases (s.patch.get l).shape <;> rfl
  | perBlock =>
    rw [blockState_env_perBlock n s hmode, PatchLayer.active]
    cases (s.patch.get l).shape <;> rfl

/-- The running peak after `n` ticks is the largest magnitude so far: a value within the bound of the mix fits the
register (rules R332, R339). -/
theorem sampleTicks_runPeak {s : State} (h : s.runPeak = 0) (n : Nat) :
    (State.sampleTicks n s).runPeak.toNat = (Finset.range n).sup fun k => (blockSample s k).natAbs := by
  induction n with
  | zero => simp [h]
  | succ n ih =>
    have hrun : (State.sampleTicks n s).runPeak.toNat ≤ mixBound := sampleTicks_runPeak_le n (by simp [h, mixBound])
    have hmix := mixSample_natAbs_le (State.sampleTicks n s)
    have hfits : max (State.sampleTicks n s).runPeak.toNat (State.sampleTicks n s).mixSample.natAbs < 2 ^ 32 :=
      (max_le hrun hmix).trans_lt (by decide)
    have hlast : State.sampleTicks (n + 1) s = (State.sampleTicks n s).sampleTick := sampleTicks_add n 1 s
    rw [hlast, sampleTick_runPeak, BitVec.toNat_ofNat, Nat.mod_eq_of_lt hfits, ih, mixSample_sampleTicks,
      Finset.range_add_one, Finset.sup_insert, max_comm]

/-- PEAK after a block is the largest magnitude of its values (rule R338). -/
theorem blockState_peak (s : State) (n : Nat) :
    (s.blockState n).peak.toNat = (Finset.range n).sup fun k => (blockSample s k).natAbs := by
  have h := sampleTicks_runPeak (s := s.startBlock) rfl n
  simpa [State.blockState, blockSample_startBlock] using h

/-! ## RENDER -/

theorem exec_render {n : BitVec 16} (hn : 1 ≤ n.toNat) (s : State) :
    exec (.render n) s = .next (s.fillSink n.toNat).advance :=
  exec_wf (i := .render n) (decide_eq_true hn)

/-- Settles O25: the samples by `blockOut_eq_map`, the envelopes by `blockState_env`, the frame by what no block writes. -/
theorem renderEmitsOneBlock : Obligations.RenderEmitsOneBlock := by
  intro n s hn
  have hsame := blockState_same s n.toNat
  refine ⟨_, s.blockOut n.toNat, exec_render hn s, ?sink, blockOut_length s _, ?samples,
    blockState_sampleCounter _ s, fun v => ⟨blockState_phase _ s v, hsame.note v, hsame.tune v, hsame.ts v⟩,
    blockState_env s _, ?frame⟩
  case sink => simp [fillSink_eq]
  case samples =>
    intro k hk
    simp [blockOut_eq_map, hk]
  case frame =>
    rw [fillSink_eq, hsame.eq_update]
    rfl

theorem toInt_s16_sat16 (y : Int) : (s16 (sat16 y)).toInt = sat16 y := by
  have hrange : -32768 ≤ sat16 y ∧ sat16 y ≤ 32767 := by rw [sat16]; omega
  rw [s16, BitVec.toInt_ofInt, Int.bmod_eq_of_le] <;> omega

/-- Settles O26: a block of one sample, whose batch tick of one is a single tick. -/
theorem oneSampleIsTheSaturatedMix : Obligations.OneSampleIsTheSaturatedMix := by
  intro s
  have hexec : exec (.render 1) s = .next (s.fillSink 1).advance := exec_render (by decide) s
  refine ⟨_, outputPair (sampleValue s), hexec, ?sink, ?left, rfl, ?peak, ?phase, ?active, ?inactive⟩
  case sink => simp [fillSink_eq, blockOut_eq_map, blockSample_zero]
  case left => exact (toInt_s16_sat16 _).trans (by rw [sat16]; omega)
  case peak => exact (blockState_peak s 1).trans (by simp [blockSample_zero])
  case phase => exact fun v => (blockState_phase 1 s v).trans (by simp)
  case active =>
    intro v l hl
    obtain ⟨w, hw⟩ := Option.ne_none_iff_exists'.mp hl
    refine (blockState_env s 1 v l).trans ?_
    cases hmode : s.cfg.envTickMode <;> simp [envAfterBlock, hw, hmode]
  case inactive =>
    intro v l hl
    exact (blockState_same s 1).heldEnv v l (not_not.mp hl)

/-- Settles O31: PEAK is the supremum of the magnitudes, which a block of at least one sample attains. -/
theorem peakIsTheLargestMagnitudeOfTheBlock : Obligations.PeakIsTheLargestMagnitudeOfTheBlock := by
  intro n s hn
  have hpeak : (s.fillSink n.toNat).advance.peak.toNat = _ := blockState_peak s n.toNat
  refine ⟨_, exec_render hn s, fun k hk => ?bound, ?attained⟩ <;> rw [hpeak]
  case bound => exact Finset.le_sup (f := fun k => (blockSample s k).natAbs) (Finset.mem_range.mpr hk)
  case attained =>
    obtain ⟨k, hk, hsup⟩ := Finset.exists_mem_eq_sup (Finset.range n.toNat) ⟨0, Finset.mem_range.mpr hn⟩
      fun k => (blockSample s k).natAbs
    exact ⟨k, Finset.mem_range.mp hk, hsup.symm⟩

/-! ## A block in two parts -/

theorem blockSample_sampleTicks (m k : Nat) (s : State) :
    blockSample (State.sampleTicks m s) k = blockSample s (m + k) := by
  rw [← mixSample_sampleTicks, ← sampleTicks_add, mixSample_sampleTicks]

theorem SoundsAs.sampleTicks_voices_eq {s t : State} (h : SoundsAs s t) (n : Nat) :
    (State.sampleTicks n t).voices = (State.sampleTicks n s).voices := by
  rw [sampleTicks_voices, sampleTicks_voices, (h.atSample n).voices]

section perSample
variable {s : State} (hmode : s.cfg.envTickMode = .perSample)
include hmode

/-- In PER_SAMPLE mode a block ends with its last sample tick: there is no batch tick (rule R334). -/
theorem blockState_voices_perSample (n : Nat) : (s.blockState n).voices = (State.sampleTicks n s).voices := by
  have hmode' : (State.sampleTicks n s.startBlock).cfg.envTickMode = .perSample := by
    rw [(sampleTicks_same n s.startBlock).cfg]; exact hmode
  rw [← (startBlock_soundsAs s).sampleTicks_voices_eq n, State.blockState, State.tickPerBlock, hmode']
  rfl

/-- After RENDER of `m` the machine stands where the block, continued, has sample `m`. -/
theorem fillSink_soundsAs_perSample (m : Nat) : SoundsAs (State.sampleTicks m s) (s.fillSink m).advance := by
  have hticks := sampleTicks_same m s
  have hblock := blockState_same s m
  exact ⟨hblock.cfg.trans hticks.cfg.symm, hblock.patch.trans hticks.patch.symm,
    hblock.masterGain.trans hticks.masterGain.symm, blockState_voices_perSample hmode m⟩

end perSample

/-- Settles O27: RENDER of `m` leaves the machine where the whole block has sample `m`, and the second part goes on from
there. -/
theorem renderInTwoPartsIsRenderWhole : Obligations.RenderInTwoPartsIsRenderWhole := by
  intro s m n hmode hm hn hfits
  have hcount : (m + n).toNat = m.toNat + n.toNat := by
    rw [BitVec.toNat_add, Nat.mod_eq_of_lt (by omega)]
  have hwhole := exec_render (n := m + n) (by omega) s
  rw [hcount] at hwhole
  let a := (s.fillSink m.toNat).advance
  have ha : SoundsAs (State.sampleTicks m.toNat s) a := fillSink_soundsAs_perSample hmode m.toNat
  have hmodeA : a.cfg.envTickMode = .perSample := by
    rw [ha.cfg, (sampleTicks_same _ s).cfg, hmode]
  refine ⟨a, _, _, s.blockOut m.toNat, a.blockOut n.toNat, exec_render hm s, exec_render hn a, hwhole,
    ?first, ?second, ?whole, ?voices, ?counter⟩
  case first => simp [a, fillSink_eq]
  case second => simp [fillSink_eq]
  case whole =>
    have hsecond : ∀ k, blockSample a k = blockSample s (m.toNat + k) := fun k => by
      rw [ha.blockSample_eq, blockSample_sampleTicks]
    simp [fillSink_eq, blockOut_eq_map, List.range_add, hsecond]
  case voices =>
    calc (s.blockState (m.toNat + n.toNat)).voices
        = (State.sampleTicks n.toNat (State.sampleTicks m.toNat s)).voices := by
          rw [blockState_voices_perSample hmode, sampleTicks_add]
      _ = (a.blockState n.toNat).voices := by
          rw [blockState_voices_perSample hmodeA, ha.sampleTicks_voices_eq]
  case counter =>
    calc (s.blockState (m.toNat + n.toNat)).sampleCounter
        = (s.blockState m.toNat).sampleCounter + .ofNat 64 n.toNat := by
          rw [blockState_sampleCounter, blockState_sampleCounter, BitVec.ofNat_add, BitVec.add_assoc]
      _ = (a.blockState n.toNat).sampleCounter := (blockState_sampleCounter n.toNat a).symm

end Sys2Proof.Machine
end

section
/-! SUPPORT. POLL and the lookahead buffer (47_mixer.md rules R336, R337, R341, R343). -/

namespace Sys2Proof.Machine

theorem exec_poll (s : State) : exec .poll s = .next s.pollState.advance := exec_wf (i := .poll) rfl

/-- RENDER of BLOCK_LEN, whose operand field holds every admitted BLOCK_LEN (00_scope.md rule R11). -/
theorem exec_render_blockLen {s : State} (hpos : 1 ≤ s.cfg.blockLen) (hmax : s.cfg.blockLen ≤ 65535) :
    exec (.render (.ofNat 16 s.cfg.blockLen)) s = .next (s.fillSink s.cfg.blockLen).advance := by
  have hcount : (BitVec.ofNat 16 s.cfg.blockLen).toNat = s.cfg.blockLen := by
    rw [BitVec.toNat_ofNat, Nat.mod_eq_of_lt (by omega)]
  rw [exec_render (by omega), hcount]

section rows
variable {s : State}

theorem pollState_of_ready_full (hready : s.sinkReady = true) (hfull : s.lookaheadFull = true) :
    s.pollState = s.copyLookahead := by
  simp [State.pollState, hready, hfull]

theorem pollState_of_not_ready_full (hready : s.sinkReady = false) (hfull : s.lookaheadFull = true) :
    s.pollState = s.dropout := by
  simp [State.pollState, hready, hfull]

theorem pollState_of_ready_empty (hready : s.sinkReady = true) (hempty : s.lookaheadFull = false) :
    s.pollState = s.fillSink s.cfg.blockLen := by
  simp [State.pollState, hready, hempty]

theorem pollState_of_not_ready_empty (hready : s.sinkReady = false) (hempty : s.lookaheadFull = false) :
    s.pollState = s.fillAhead := by
  simp [State.pollState, hready, hempty]

end rows

/-- Settles O28: the four cases of `pollState`; a fill, to the sink or ahead, is the block of RENDER. -/
theorem pollFollowsTheLookaheadMachine : Obligations.PollFollowsTheLookaheadMachine := by
  intro s
  rw [exec_poll]
  refine ⟨⟨_, rfl⟩, fun hready hfull => ?readyFull, fun hready hfull => ?notReadyFull,
    fun hready hempty hpos hmax => ?readyEmpty, fun hready hempty hpos hmax => ?notReadyEmpty⟩
  case readyFull => rw [pollState_of_ready_full hready hfull]; rfl
  case notReadyFull => rw [pollState_of_not_ready_full hready hfull]; rfl
  case readyEmpty => rw [pollState_of_ready_empty hready hempty, exec_render_blockLen hpos hmax]
  case notReadyEmpty =>
    have hsink : (s.blockState s.cfg.blockLen).sinkOut = s.sinkOut := (blockState_same s _).sinkOut
    refine ⟨_, s.blockOut s.cfg.blockLen, exec_render_blockLen hpos hmax, by simp [fillSink_eq], ?_⟩
    rw [pollState_of_not_ready_empty hready hempty, ← hsink]
    rfl

/-- Settles O29, from the row of the lookahead machine for a full buffer and a sink that is not ready. -/
theorem dropoutOnlyCounts : Obligations.DropoutOnlyCounts := by
  intro s hready hfull
  obtain ⟨-, -, hdropout, -⟩ := pollFollowsTheLookaheadMachine s
  exact ⟨_, hdropout hready hfull, BitVec.toNat_add _ _, rfl, rfl, rfl, rfl, rfl⟩

/-- Settles O30: a fill ahead and then a copy put the block where RENDER puts it, and leave the buffer empty, as it was. -/
theorem fillAheadThenCopyIsRender : Obligations.FillAheadThenCopyIsRender := by
  intro s hready hempty hpos hmax
  let t := s.fillAhead.advance
  have hfill : exec .poll s = .next t := by rw [exec_poll, pollState_of_not_ready_empty hready hempty]
  refine ⟨t, _, _, hfill, exec_poll _, exec_render_blockLen hpos hmax, ?_⟩
  rw [pollState_of_ready_full rfl rfl]
  simp [t, fillAhead_eq, fillSink_eq, hempty, State.copyLookahead, State.emitSink, State.emptyLookahead, State.advance]

end Sys2Proof.Machine
end

section
/-! SUPPORT. The bounds of the mix, intermediate by intermediate (47_mixer.md rule R339). -/

namespace Sys2Proof.Machine

open Sys2Proof.Claims

/-- A product by a natural number of at most `c` is within the product of the bounds. -/
theorem natAbs_mul_natCast_le {x : Int} {b n c : Nat} (hx : x.natAbs ≤ b) (hn : n ≤ c) : (x * n).natAbs ≤ b * c := by
  rw [Int.natAbs_mul, Int.natAbs_natCast]
  exact Nat.mul_le_mul hx hn

theorem natAbs_sum_le {b : Nat} {xs : List Int} (h : ∀ x ∈ xs, x.natAbs ≤ b) : xs.sum.natAbs ≤ xs.length * b := by
  have hupper := List.sum_le_card_nsmul xs (b : Int) fun x hx => by have := h x hx; omega
  have hlower := List.card_nsmul_le_sum xs (-b : Int) fun x hx => by have := h x hx; omega
  simp only [nsmul_eq_mul, mul_neg] at hupper hlower
  omega

theorem length_contributions (s : State) : (contributions s).length = 32 := rfl

theorem natAbs_le_of_mem_contributions {s : State} {x : Int} (h : x ∈ contributions s) : x.natAbs ≤ 23488 := by
  simp only [contributions, List.mem_flatMap, List.mem_map] at h
  obtain ⟨v, -, l, -, rfl⟩ := h
  exact contribution_natAbs_le s v l

theorem sum_contributions (s : State) : (contributions s).sum = s.mixSum := by
  have hsum : (contributions s).sum
      = (voiceOrder.map fun v => (layerOrder.map fun l => s.contribution v l).sum).sum := by
    rw [contributions, List.flatMap, List.sum_flatten, List.map_map]
    rfl
  rw [hsum]
  simp only [sum_map_layerOrder, sum_map_voiceOrder]
  rfl

/-- The accumulator after each addition is within 32 contributions. -/
theorem natAbs_sum_take_contributions_le (s : State) (k : Nat) :
    ((contributions s).take k).sum.natAbs ≤ mixBound := by
  have hlength : ((contributions s).take k).length ≤ 32 := by
    rw [List.length_take, length_contributions]
    exact min_le_right k 32
  calc ((contributions s).take k).sum.natAbs
      ≤ ((contributions s).take k).length * 23488 :=
        natAbs_sum_le fun x hx => natAbs_le_of_mem_contributions (List.mem_of_mem_take hx)
    _ ≤ 32 * 23488 := Nat.mul_le_mul_right _ hlength

theorem mixSum_natAbs_le (s : State) : s.mixSum.natAbs ≤ mixBound :=
  eightSum_natAbs_le fun v => fourSum_natAbs_le fun l => contribution_natAbs_le s v l

/-- Settles O34: every factor is at most full scale, so each bound is the one of the 23488 entries it starts from. -/
theorem mixIsBounded : Obligations.MixIsBounded := by
  refine ⟨memReadWt_range, ?layer, contribution_natAbs_le, natAbs_sum_take_contributions_le, ?mix, ?peak⟩
  case layer =>
    intro p level w mix
    have hs := oscSample_natAbs_le p w
    have he := asr_level_natAbs_le hs level
    exact ⟨hs, (natAbs_mul_natCast_le hs level.isLt.le).trans_lt (by decide), he,
      natAbs_mul_natCast_le he (Nat.le_of_lt_succ mix.isLt)⟩
  case mix =>
    exact fun s => ⟨(sum_contributions s).symm, mixSum_natAbs_le s,
      natAbs_mul_natCast_le (mixSum_natAbs_le s) (Nat.le_of_lt_succ s.masterGain.isLt), mixSample_natAbs_le s⟩
  case peak =>
    intro n s t hn hexec
    obtain rfl : (s.fillSink n.toNat).advance = t := by simpa [exec_render hn] using hexec
    exact (blockState_peakBounded s n.toNat).1.trans_lt (by decide)

end Sys2Proof.Machine
end

section
/-! SUPPORT. The round trip of a command through its word (30_encoding.md sections 1 to 3): the encoder writes the opcode,
the zero fields, the selector and the operands where the stages of the decoder read them. -/

namespace Sys2Proof.Machine

/-! ## The fields of a command's word -/

theorem ofNat_field_eq_iff {w : Word} {lo len : Nat} {x : BitVec len} :
    BitVec.ofNat len (field w lo len) = x ↔ field w lo len = x.toNat := by
  rw [← BitVec.toNat_inj, toNat_ofNat_field]

theorem field_encode_opcode (i : Instr) : field (encode i) 28 4 = rowOpcode i := by
  cases i <;> simp only [encode, encodeCtrl, encodeLayer, rowOpcode, field, BitVec.toNat_ofNat]
  case readWt shape _ => have := waveCode_lt shape; omega
  all_goals omega

theorem reservedFields_encode (i : Instr) : reservedFields (encode i) (rowOpcode i) = 0 := by
  cases i <;>
    simp only [encode, encodeCtrl, encodeLayer, rowOpcode, reservedFields, Nat.add_eq_zero_iff, field, BitVec.toNat_ofNat]
  case readWt shape _ => have := waveCode_lt shape; omega
  all_goals omega

/-- Format C keeps the selector TGT and the value apart. -/
theorem decodeFields_encodeCtrl {tgt : Nat} (h : tgt < 8) (value : Index14) :
    decodeFields (encodeCtrl tgt value) 3 = decodeCtrl tgt value := by
  have htgt : field (encodeCtrl tgt value) 24 3 = tgt := by
    simp only [encodeCtrl, field, BitVec.toNat_ofNat]; omega
  have hvalue : field (encodeCtrl tgt value) 0 14 = value.toNat := by
    simp only [encodeCtrl, field, BitVec.toNat_ofNat]; omega
  rw [decodeFields, htgt, ofNat_field_eq_iff.mpr hvalue]

/-- Format L keeps the layer, the selector PRM and the value apart. -/
theorem decodeFields_encodeLayer {prm : Nat} (h : prm < 8) (layer : Fin 4) (value : Index14) :
    decodeFields (encodeLayer prm layer value) 4 = decodeLayer prm layer value := by
  have hprm : field (encodeLayer prm layer value) 20 3 = prm := by
    simp only [encodeLayer, field, BitVec.toNat_ofNat]; omega
  have hlayer : field (encodeLayer prm layer value) 24 2 = layer := by
    simp only [encodeLayer, field, BitVec.toNat_ofNat]; omega
  have hvalue : field (encodeLayer prm layer value) 0 14 = value.toNat := by
    simp only [encodeLayer, field, BitVec.toNat_ofNat]; omega
  rw [decodeFields, hprm, hlayer, ofNat_field_eq_iff.mpr hvalue, Fin.ofNat_val_eq_self]

/-- Format W keeps the shape and the index apart. -/
theorem decodeFields_encode_readWt (shape : Wave) (index : BitVec 12) :
    decodeFields (encode (.readWt shape index)) 8 = .command (.readWt shape index) := by
  have hlt := waveCode_lt shape
  have hshape : field (encode (.readWt shape index)) 12 2 = waveCode shape := by
    simp only [encode, field, BitVec.toNat_ofNat]; omega
  have hindex : field (encode (.readWt shape index)) 0 12 = index.toNat := by
    simp only [encode, field, BitVec.toNat_ofNat]; omega
  rw [decodeFields, hshape, waveOfCode_waveCode, ofNat_field_eq_iff.mpr hindex]

theorem decodeFields_encode (i : Instr) : decodeFields (encode i) (rowOpcode i) = .command i := by
  cases i with
  | nop | poll => rfl
  | ctrlAttack value | ctrlDecay value | ctrlSustain value | ctrlRelease value | ctrlGain value =>
    exact decodeFields_encodeCtrl (by decide) value
  | layerShape layer value | layerAttack layer value | layerDecay layer value | layerSustain layer value
  | layerRelease layer value | layerMix layer value => exact decodeFields_encodeLayer (by decide) layer value
  | readWt shape index => exact decodeFields_encode_readWt shape index
  | noteOn | noteOff | render | readReg | readPitch | readEnvlut =>
    simp only [rowOpcode, decodeFields, Decoded.command.injEq, Instr.noteOn.injEq, Instr.noteOff.injEq,
      Instr.render.injEq, Instr.readReg.injEq, Instr.readPitch.injEq, Instr.readEnvlut.injEq, ofNat_field_eq_iff]
    simp only [encode, field, BitVec.toNat_ofNat]
    omega

/-! ## The obligations about the encoding -/

/-- Settles O2: the word has its row's opcode and no reserved bit, so the decoder reads the fields, which are the
command's. -/
theorem decodeOfEncodeIsTheCommand : Obligations.DecodeOfEncodeIsTheCommand := by
  intro i
  rw [decode_eq_stages, field_encode_opcode, if_neg (Nat.not_le.mpr (rowOpcode_lt i)), reservedFields_encode,
    unlessReserved_zero, decodeFields_encode]

/-- Settles O3, by `encode_of_decode`. -/
theorem encodeOfDecodedWordIsTheWord : Obligations.EncodeOfDecodedWordIsTheWord := fun _ _ => encode_of_decode

end Sys2Proof.Machine
end

section
/-! SUPPORT. The step by what is first at the port (30_encoding.md rule R129): nothing, a reset or a word. No case stops
(60_exceptions.md rule R370), and each takes the first event alone. -/

namespace Sys2Proof.Machine

theorem step_idle {s : State} (h : s.port = []) : step s = .next s := by
  simp [step, h]

theorem step_reset {s : State} {rest : List PortEvent} (h : s.port = .reset :: rest) :
    step s = .next (s.consumeReset rest) := by
  simp [step, h]

/-- Every word ends in a next state, executed or rejected, and leaves what follows it at the port. -/
theorem execWord_next (w : Word) (s : State) : ∃ t, execWord w s = .next t ∧ t.port = s.port := by
  cases hd : decode w with
  | reject cause => exact ⟨_, execWord_reject hd s, rfl⟩
  | command i =>
    rw [execWord_command hd]
    cases hwf : i.wf s.cfg with
    | true => exact ⟨_, exec_wf hwf, by simp⟩
    | false => exact ⟨_, exec_not_wf hwf, rfl⟩

/-! ## The obligations about the port and reset -/

/-- Settles O8. -/
theorem stepWithNothingPresentedHolds : Obligations.StepWithNothingPresentedHolds := fun _ => step_idle

/-- Settles O9: the state the reset input leaves is spelled out in `State.consumeReset`. -/
theorem resetInputRestoresTheResetState : Obligations.ResetInputRestoresTheResetState := fun _ _ => step_reset

/-- Settles O13, by what is first at the port. -/
theorem noStepStopsAndOrderIsKept : Obligations.NoStepStopsAndOrderIsKept := by
  intro s
  match hport : s.port with
  | [] => exact ⟨s, step_idle hport, hport⟩
  | .reset :: rest => exact ⟨_, step_reset hport, rfl⟩
  | .command w ready :: rest =>
    obtain ⟨t, hnext, hleft⟩ := execWord_next w (s.consume ready rest)
    exact ⟨t, (step_command hport).trans hnext, hleft⟩

/-- Settles O21, by `resetWith_inv`. -/
theorem resetStateMeetsTheInvariant : Obligations.ResetStateMeetsTheInvariant := fun _ => resetWith_inv

end Sys2Proof.Machine
end
